-- ==== Sys2Proof/Word.lean ====
section
/-! DEFINITION. The words the ports and packets of the KN416 carry. -/

namespace Sys2Proof

/-- An octet on the wire, or one overlay index of the store (R96, glossary). -/
abbrev Byte := BitVec 8

/-- A word of a raster port (R195). -/
abbrev Word := BitVec 32

/-- The three 10-bit channels of a pixel word, C0 in bits 29..20, C1 in 19..10, C2 in 9..0 (R195). -/
abbrev Pixel := BitVec 30

/-- A packet, octet for octet, from the start octet through the CRC (R139). -/
abbrev Packet := List Byte

end Sys2Proof
end

