-- ==== Sys2Proof/Syntax.lean ====
section
/-! DEFINITION. The commands and events the block takes, one constructor per row of
spec/opcode_table.json. -/

namespace Sys2Proof

/-- The steps of the KN416. The operands are the model's reading (log 1): a raster word without its
bit 31 (R195), a reading of the reference clock in nanoseconds (log 4), and for a controller's
command the sequence field and the payload octets as carried in its packet (R139, R197). -/
inductive Instr where
  | powerOn
  | pinReset
  | resetRelease
  | inputLineStart (bits : BitVec 31) (clock : Nat)
  | inputPixelWord (bits : BitVec 31)
  | acquireTimerExpiry
  | flywheelExpiry
  | internalLineStart
  | holdoverLimit
  | editExpiry
  | sfBurstComplete
  | ceBurstComplete
  | storeChecksComplete
  | reportCountdown (region : Fin 16)
  | commandBegin
  | unknownCode (seq code : Byte) (payload : List Byte)
  | readInfo (seq : Byte) (payload : List Byte)
  | readStatus (seq : Byte) (payload : List Byte)
  | clearCounters (seq : Byte) (payload : List Byte)
  | setNotifyMask (seq : Byte) (payload : List Byte)
  | setTiming (seq : Byte) (payload : List Byte)
  | editOpen (seq : Byte) (payload : List Byte)
  | editCloseDiscard (seq : Byte)
  | editCloseKeep (seq : Byte)
  | editCloseCommit (seq : Byte)
  | sequencedCommit (seq : Byte) (payload : List Byte)
  | broadcastCommit (payload : List Byte)
  | setRegion (seq : Byte) (payload : List Byte)
  | setPalette (seq : Byte) (payload : List Byte)
  | setCue (seq : Byte) (payload : List Byte)
  | readRegion (seq : Byte) (payload : List Byte)
  | readPalette (seq : Byte) (payload : List Byte)
  | readCue (seq : Byte) (payload : List Byte)
  | ovlWrite (seq : Byte) (payload : List Byte)
  | ovlFill (seq : Byte) (payload : List Byte)
  | ovlCopy (seq : Byte) (payload : List Byte)
  | ovlRead (seq : Byte) (payload : List Byte)
  | setFence (seq : Byte) (payload : List Byte)
  | readFence (seq : Byte) (payload : List Byte)
  | readMeasure (seq : Byte) (payload : List Byte)
  | setReport (seq : Byte) (payload : List Byte)
  | cancel (seq : Byte) (payload : List Byte)
  | nodeReset (broadcast : Bool) (seq : Byte) (payload : List Byte)
  | storeClearingDone
  deriving DecidableEq, Repr

end Sys2Proof
end

