-- ==== Sys2Proof/Decode.lean ====
section
/-! DEFINITION. The commands that a word of the opcode table spells. -/

namespace Sys2Proof

/-- The command a table word spells. No row of spec/opcode_table.json gives bits, so no word spells
one: the part is reached through raster words, pins and clock events (R195, R200). -/
def decodeTableWord (_nbits _w : Nat) : Option Instr := none

/-- The command that a word of the raster input port is: bit 31 marks a line start word, its absence a
pixel word (R195). `clock` is the reading at which it arrives (log 4). -/
def inputWordCommand (w : Word) (clock : Nat) : Instr :=
  if w.getLsbD 31 then .inputLineStart (w.setWidth 31) clock else .inputPixelWord (w.setWidth 31)

end Sys2Proof
end

