-- ==== Sys2Proof/Config.lean ====
section
/-! DEFINITION. The capacities of the part (R192) and the values the manual leaves open. -/

namespace Sys2Proof

/-- Octets of the overlay store (R96). -/
def Config.storeOctets : Nat := 1048576
/-- Octets of one line buffer (R80). -/
def Config.bufferOctets : Nat := 8192
/-- Regions of a bank (R1). -/
def Config.regions : Nat := 16
/-- Entries the notification queue holds (R182). -/
def Config.notifyPlaces : Nat := 16
/-- Commands the command queue holds, and sequenced response slots, and replay entries (R160). -/
def Config.commandPlaces : Nat := 8
/-- Octets of a full burst (R98). -/
def Config.burstOctets : Nat := 64
/-- Pixel words the RTU keeps of a line (R38). -/
def Config.lineWords : Nat := 4096
/-- Lines the RTU counts in a frame (R39). -/
def Config.frameLines : Nat := 4401
/-- The acquire timer's 100 ms in nanoseconds (R43). -/
def Config.acquireNanos : Nat := 100000000

/-- Free bit `n`: which of two outcomes the manual leaves open happens. FREE VALUE (log 9 to 12, 15):
no body, so a claim holds whichever it is. -/
opaque Config.freeBit : Nat → Bool

/-- The measured duration of a frame whose duration in microseconds lies outside the range of R42.
FREE VALUE (log 13). -/
opaque Config.freeDuration : Nat → BitVec 32

/-- The octet READ_STATUS shows for a MGMT line count that its one octet cannot hold (R198).
FREE VALUE (log 14). -/
opaque Config.freeCountOctet : Nat → Byte

end Sys2Proof
end

