-- ==== Sys2Proof/Machine/Types.lean ====
section
/-! DEFINITION. The records the blocks of the KN416 hold, in the manual's own shapes. -/

namespace Sys2Proof.Machine

/-- A colour: three channel values 0..1023 (conventions). -/
structure Colour where
  c0 : Nat
  c1 : Nat
  c2 : Nat
  deriving DecidableEq, Repr

/-! ### Composition set (chapter 1) -/

/-- Where a region's source colour comes from (R2). -/
inductive Source where
  | input | fill | overlay
  deriving DecidableEq, Repr

/-- How source and ground are combined (R2, R73). -/
inductive RegionOp where
  | copy | blend | max | min | invert | dim
  deriving DecidableEq, Repr

/-- A region record (R2). -/
structure Region where
  enable : Bool
  layer : Nat
  x0 : Nat
  y0 : Nat
  x1 : Nat
  y1 : Nat
  source : Source
  op : RegionOp
  mask : BitVec 3
  opacity : Nat
  fill : Colour
  base : Nat
  pitch : Nat
  srcX : Nat
  srcY : Nat
  key : Option Byte
  measure : Bool
  threshold : Option (Nat × Nat)
  freezeLimit : Nat
  deriving DecidableEq, Repr

/-- A palette entry (R7). -/
structure PaletteEntry where
  colour : Colour
  opacity : Nat
  deriving DecidableEq, Repr

/-- What a line cue does (R8). -/
inductive CueAction where
  | notifyCue | hideRegions | showRegions
  deriving DecidableEq, Repr

/-- A line cue record (R8); bit i of the mask is region i (R196). -/
structure Cue where
  enable : Bool
  line : Nat
  action : CueAction
  regions : BitVec 16
  deriving DecidableEq, Repr

/-- One bank: 16 regions, 256 palette entries, 8 cues, by index (R1). -/
structure CompositionSet where
  regions : List Region
  palette : List PaletteEntry
  cues : List Cue
  deriving DecidableEq, Repr

/-- Who set a commit request (R21). -/
inductive Origin where
  | command | reset
  deriving DecidableEq, Repr

/-- The Composition Table (R1, R20, R21). -/
structure CompositionTable where
  pendingSet : CompositionSet
  activeSet : CompositionSet
  editOpen : Bool
  timer : Nat
  request : Option Origin
  deriving DecidableEq, Repr

/-! ### Raster timing (chapter 3) -/

/-- The four lock states (R42). -/
inductive LockState where
  | freeRun | acquiring | locked | holdover
  deriving DecidableEq, Repr

/-- Why a lock state changed (R50). -/
inductive LockCause where
  | inputFrame | matched | mismatch | flywheel | acquireTimeout | holdoverLimit
  deriving DecidableEq, Repr

/-- The kind of a line (R38). -/
inductive LineKind where
  | active | blank | mgmt
  deriving DecidableEq, Repr

/-- A geometry record (R40). -/
structure Geometry where
  total : Nat
  active : Nat
  firstActive : Nat
  width : Nat
  mgmt : Nat
  deriving DecidableEq, Repr

/-- The eight free-run parameters (R59); the first five are a geometry. -/
structure FreeRun where
  geometry : Geometry
  period : Nat
  holdoverLimit : Nat
  slate : Colour
  deriving DecidableEq, Repr

/-- An input line as the RTU keeps it (R38), with the forward list the MLU makes for it (R149). -/
structure InputLine where
  kind : LineKind
  frameStart : Bool
  words : List Pixel
  overLong : Bool
  unclean : Bool
  forward : List Packet
  deriving DecidableEq, Repr

/-- What the RTU has measured of the input frame in progress, over its ended lines (R39, R40).
`active` counts ACTIVE lines; `firstActive` and `width` are 0 while there is none. -/
structure InputFrame where
  startedAt : Nat
  lines : Nat
  active : Nat
  firstActive : Nat
  width : Nat
  mgmt : Nat
  contiguous : Bool
  uniform : Bool
  clean : Bool
  deriving DecidableEq, Repr

/-- The Raster Timing Unit's input side and lock state (R42). `cur` is the line arriving, `prev` the
line before it: the two lines of the delay. `awaitSwitch`: LOCKED is entered and the first locked
output frame has not started (R52). -/
structure RasterTiming where
  lock : LockState
  candidate : Option Geometry
  locked : Option Geometry
  measured : Option Nat
  flywheel : Option Nat
  acquire : Option Nat
  holdoverCount : Nat
  watching : Bool
  params : FreeRun
  lockLosses : Nat
  frame : Option InputFrame
  cur : Option InputLine
  prev : Option InputLine
  awaitSwitch : Bool
  deriving DecidableEq, Repr

/-- The output raster (R51 to R58). `tx` is the output line now carried, start word first (R195). -/
structure OutputRaster where
  running : Bool
  inputTimed : Bool
  geometry : Geometry
  period : Nat
  startedAt : Nat
  line : Nat
  activeCount : Nat
  frameEnded : Bool
  activated : Bool
  counter : BitVec 16
  tx : List Word
  deriving DecidableEq, Repr

/-- The Compositor's own state (chapter 4). -/
structure Compositor where
  cueMask : BitVec 16
  slate : Colour
  deriving DecidableEq, Repr

/-! ### Memory and spans (chapters 5 and 6) -/

/-- Octets by address, in one canonical form (see `Memory.Wf`). -/
abbrev Memory := List Host.Cell

/-- Span status of a region in a line buffer (R80); a placed or present span has an offset and a
length in the buffer. -/
inductive SpanStatus where
  | none
  | placed (offset length : Nat)
  | present (offset length : Nat)
  | budget
  | late
  deriving DecidableEq, Repr

/-- A line buffer (R80). -/
structure LineBuffer where
  owner : Option Nat
  status : List SpanStatus
  octets : Memory
  deriving DecidableEq, Repr

/-- A placed span with the number of its octets already fetched (R84 to R86). -/
structure SpanJob where
  region : Nat
  offset : Nat
  length : Nat
  start : Nat
  done : Nat
  deriving DecidableEq, Repr

/-- The fetch in progress: the fill list, and the spans not yet complete, the first one being
fetched (R86). -/
structure Fetch where
  fillList : List Nat
  jobs : List SpanJob
  deriving DecidableEq, Repr

/-- The Span Fetcher (chapter 5). -/
structure SpanFetcher where
  showing : LineBuffer
  filling : LineBuffer
  fetch : Option Fetch
  underruns : List Nat
  reported : List Bool
  deriving DecidableEq, Repr

/-- A burst request (R98). -/
structure BurstRequest where
  write : Bool
  addr : Nat
  len : Nat
  deriving DecidableEq, Repr

/-- The arbiter's two requesters (R98). -/
inductive Requester where
  | sf | ce
  deriving DecidableEq, Repr

/-- A granted burst; `discard`: its octets are not written into any buffer (R87, R90; log 28). -/
structure Grant where
  owner : Requester
  request : BurstRequest
  discard : Bool
  deriving DecidableEq, Repr

/-- Fence modes (R101). -/
inductive FenceMode where
  | off | reject | clip
  deriving DecidableEq, Repr

/-- A fence record (R101). -/
structure Fence where
  mode : FenceMode
  base : Nat
  pitch : Nat
  fx0 : Nat
  fx1 : Nat
  fy0 : Nat
  fy1 : Nat
  deriving DecidableEq, Repr

/-- A surface view and a point of it: base, pitch, x, y (R96). -/
structure View where
  base : Nat
  pitch : Nat
  x : Nat
  y : Nat
  deriving DecidableEq, Repr

/-- Kind and parameters of a store operation, as carried (R100, R108, R110, R112, R115). -/
inductive StoreParams where
  | write (view : View) (indices : List Byte)
  | fill (view : View) (w h : Nat) (index : Byte)
  | copy (src dst : View) (w h : Nat)
  | read (view : View) (count : Nat)
  deriving DecidableEq, Repr

/-- The operation record (R100). `running` is the phase; `fences` are those the operation was checked
against (R118; log 24); `ending`: its requester has ended it and it stands only until the burst in progress
completes (R117, R118). -/
structure StoreOp where
  params : StoreParams
  running : Bool
  next : Nat
  held : List Byte
  written : Nat
  clipped : Nat
  data : List Byte
  fences : List Fence
  ending : Bool
  deriving DecidableEq, Repr

/-- The Overlay Store and Store Arbiter (chapter 6); `clearing`: the power-on clearing has not
finished (R97). -/
structure OverlayStore where
  cells : Memory
  clearing : Bool
  sfWaiting : Option BurstRequest
  ceWaiting : Option BurstRequest
  busy : Option Grant
  op : Option StoreOp
  fences : List Fence
  deriving DecidableEq, Repr

/-! ### Region monitor (chapter 7) -/

/-- A measurement record (R125). -/
structure Measurement where
  frame : BitVec 16
  count : Nat
  sum : Nat
  min : Nat
  max : Nat
  mean : Option Nat
  deriving DecidableEq, Repr

/-- Level states (R121). -/
inductive Level where
  | unknown | inRange | low | high
  deriving DecidableEq, Repr

/-- A monitor record (R121). -/
structure Monitor where
  count : Nat
  sum : Nat
  min : Nat
  max : Nat
  record : Option Measurement
  level : Level
  stillness : Nat
  frozen : Bool
  interval : Nat
  countdown : Nat
  deriving DecidableEq, Repr

/-- The Region Monitor (R121). -/
structure RegionMonitor where
  measuring : Bool
  complete : Bool
  monitors : List Monitor
  deriving DecidableEq, Repr

/-! ### Management lines (chapter 8) -/

/-- The parse of the input MGMT line arriving (R140): the offset reached, whether parsing has ended,
and the octets of the packet now arriving (none at a packet-start position). -/
structure Parse where
  offset : Nat
  ended : Bool
  packet : List Byte
  deriving DecidableEq, Repr

/-- The Management Line Unit (chapter 8), less the forward lists, which stand with their lines.
`assembled` numbers the output MGMT lines (log 26). -/
structure ManagementUnit where
  address : Nat
  parse : Option Parse
  sequence : Byte
  crcErrors : Nat
  framingErrors : Nat
  notForwarded : Nat
  misaddressed : Nat
  assembled : Nat
  deriving DecidableEq, Repr

/-! ### Command engine (chapter 9) -/

/-- Response statuses (R173). -/
inductive Status where
  | ok | cancelled | badLength | badField | outOfRange | fenced | notOpen | alreadyOpen
  | editIsOpen | stale | unknownCode | overlap
  deriving DecidableEq, Repr

/-- An accepted command: sequenced or broadcast, sequence, code, payload (R160). -/
structure Queued where
  sequenced : Bool
  seq : Byte
  code : Byte
  payload : List Byte
  deriving DecidableEq, Repr

/-- Progress of a command that stays in execution (R172). -/
inductive Progress where
  | store | commit | resetCommit
  deriving DecidableEq, Repr

/-- The command in execution (R160). -/
structure InExecution where
  command : Queued
  progress : Progress
  deriving DecidableEq, Repr

/-- A formed response (R173); `immediate`: it occupies the immediate slot; `eligible`: the first
output MGMT line it may enter (R153). -/
structure Response where
  seq : Byte
  code : Byte
  status : Status
  replay : Bool
  data : List Byte
  immediate : Bool
  eligible : Nat
  deriving DecidableEq, Repr

/-- The immediate slot (R160). -/
inductive Slot where
  | free | reserved | filled
  deriving DecidableEq, Repr

/-- A replay cache entry (R174). -/
structure CacheEntry where
  seq : Byte
  code : Byte
  status : Status
  data : List Byte
  deriving DecidableEq, Repr

/-- A CANCEL that waits for a granted burst, with the sequenced commands it removed (R176). -/
structure CancelWait where
  seq : Byte
  code : Byte
  removed : List Queued
  deriving DecidableEq, Repr

/-- The Command Engine (R160). -/
structure CommandEngine where
  lastSeq : Option Byte
  queue : List Queued
  exec : Option InExecution
  reservations : Nat
  slot : Slot
  responses : List Response
  cache : List CacheEntry
  discardedSince : Nat
  discarded : Nat
  duplicates : Nat
  cancel : Option CancelWait
  deriving DecidableEq, Repr

/-! ### Notifications (chapter 10) -/

/-- A notification's kind with its data (R187). `late` of an UNDERRUN: the cause is LATE, else
BUDGET. -/
inductive Notice where
  | lock (previous new : LockState) (cause : LockCause)
  | editExpired
  | commitSkipped
  | underrun (region line : Nat) (late : Bool)
  | cue (index : Nat)
  | level (region : Nat) (previous new : Level) (mean : Nat)
  | frozen (region count : Nat)
  | moving (region count : Nat)
  | measure (region : Nat) (record : Measurement)
  deriving DecidableEq, Repr

/-- An entry of the notification queue (R182). -/
structure Notification where
  notice : Notice
  frame : BitVec 16
  eligible : Nat
  deriving DecidableEq, Repr

/-- The Notification Queue (chapter 10); `lostTotal` is notifications_lost. -/
structure NotificationQueue where
  entries : List Notification
  mask : BitVec 9
  lost : Nat
  lostTotal : Nat
  deriving DecidableEq, Repr

end Sys2Proof.Machine
end

