-- ==== Sys2Proof/Machine/Defaults.lean ====
section
/-! DEFINITION. The values the resets give (R9, R61, R101, R137, R181, R189). -/

namespace Sys2Proof.Machine

/-- Black, the default fill colour (R9). -/
def Colour.black : Colour := ⟨0, 0, 0⟩

/-- The default slate colour (3.5). -/
def Colour.defaultSlate : Colour := ⟨64, 512, 512⟩

/-- Every region's default record (R9). -/
def Region.default : Region :=
  { enable := false, layer := 0, x0 := 0, y0 := 0, x1 := 0, y1 := 0, source := .fill, op := .copy,
    mask := 7, opacity := 16, fill := .black, base := 0, pitch := 1, srcX := 0, srcY := 0,
    key := none, measure := false, threshold := none, freezeLimit := 0 }

/-- Palette entry `i` of the default grey ramp (R9). -/
def PaletteEntry.default (i : Nat) : PaletteEntry :=
  { colour := ⟨4 * i, 4 * i, 4 * i⟩, opacity := if i = 0 then 0 else 16 }

/-- Every cue's default record (R9). -/
def Cue.default : Cue := { enable := false, line := 0, action := .notifyCue, regions := 0 }

/-- The default composition set (R9). -/
def CompositionSet.default : CompositionSet :=
  { regions := List.replicate 16 Region.default
    palette := (List.range 256).map PaletteEntry.default
    cues := List.replicate 8 Cue.default }

/-- The CT after power-on and pin reset (R10, R20, R21). -/
def CompositionTable.initial : CompositionTable :=
  { pendingSet := .default, activeSet := .default, editOpen := false, timer := 0, request := none }

/-- The default free-run geometry (3.5). -/
def Geometry.default : Geometry := ⟨750, 720, 25, 1280, 2⟩

/-- The default free-run parameters (3.5). -/
def FreeRun.default : FreeRun :=
  { geometry := .default, period := 16667, holdoverLimit := 30, slate := .defaultSlate }

/-- The RTU after power-on and pin reset (R42, R61). -/
def RasterTiming.initial : RasterTiming :=
  { lock := .freeRun, candidate := none, locked := none, measured := none, flywheel := none,
    acquire := none, holdoverCount := 0, watching := false, params := .default, lockLosses := 0,
    frame := none, cur := none, prev := none, awaitSwitch := false }

/-- The output raster before the first frame: the counter is 0 (R58) and no line is carried (R61).
The geometry and period shown until then are the first frame's (log 20). -/
def OutputRaster.initial : OutputRaster :=
  { running := false, inputTimed := false, geometry := .default, period := 16667, startedAt := 0,
    line := 0, activeCount := 0, frameEnded := false, activated := false, counter := 0, tx := [] }

/-- The Compositor after power-on and pin reset (R79). -/
def Compositor.initial : Compositor := { cueMask := 0, slate := .defaultSlate }

/-- A line buffer with no owner line (R80, R95; log 19). -/
def LineBuffer.empty : LineBuffer :=
  { owner := none, status := List.replicate 16 .none, octets := [] }

/-- The SF after power-on and pin reset (R95). -/
def SpanFetcher.initial : SpanFetcher :=
  { showing := .empty, filling := .empty, fetch := none, underruns := List.replicate 16 0,
    reported := List.replicate 16 false }

/-- A fence record after each reset (R101). -/
def Fence.default : Fence :=
  { mode := .off, base := 0, pitch := 1, fx0 := 0, fx1 := 0, fy0 := 0, fy1 := 0 }

/-- The fence records after each reset (R101). -/
def Fence.defaults : List Fence := List.replicate 4 .default

/-- The OS after power-on: every octet 0, the clearing still to finish (R97, R101, R119). -/
def OverlayStore.initial : OverlayStore :=
  { cells := [], clearing := true, sfWaiting := none, ceWaiting := none, busy := none, op := none,
    fences := Fence.defaults }

/-- A monitor record after each reset (R137). -/
def Monitor.initial : Monitor :=
  { count := 0, sum := 0, min := 0, max := 0, record := none, level := .unknown, stillness := 0,
    frozen := false, interval := 0, countdown := 0 }

/-- RMON after each reset (R137). -/
def RegionMonitor.initial : RegionMonitor :=
  { measuring := false, complete := false, monitors := List.replicate 16 .initial }

/-- The MLU after power-on and pin reset (R158). -/
def ManagementUnit.initial : ManagementUnit :=
  { address := 0, parse := none, sequence := 0, crcErrors := 0, framingErrors := 0,
    notForwarded := 0, misaddressed := 0, assembled := 0 }

/-- The CE after power-on and pin reset (R181). -/
def CommandEngine.initial : CommandEngine :=
  { lastSeq := none, queue := [], exec := none, reservations := 0, slot := .free, responses := [],
    cache := [], discardedSince := 0, discarded := 0, duplicates := 0, cancel := none }

/-- The NQ after each reset (R188, R189). -/
def NotificationQueue.initial : NotificationQueue :=
  { entries := [], mask := 0x1FF, lost := 0, lostTotal := 0 }

end Sys2Proof.Machine
end

