-- ==== Sys2Proof/Machine/State.lean ====
section
/-! DEFINITION. The state of the KN416, the reasons a step can stop, and the state after reset. -/

namespace Sys2Proof.Machine

/-- Everything the spec gives the block, block by block, with the queue of waiting commands (log 8) and
the counter that names the next free value (log 30). -/
structure State where
  pending : List Instr
  resetLow : Bool
  now : Nat
  free : Nat
  ct : CompositionTable
  rtu : RasterTiming
  out : OutputRaster
  comp : Compositor
  sf : SpanFetcher
  os : OverlayStore
  mon : RegionMonitor
  mlu : ManagementUnit
  ce : CommandEngine
  nq : NotificationQueue
  deriving DecidableEq, Repr

/-- The reasons a step stops. -/
inductive Fault where
  /-- Raised by SF_BURST_COMPLETE and CE_BURST_COMPLETE when the granted burst reaches past the last
  store address 1,048,575, an address the spec says does not exist (R98). Safe: the machine stops
  where no legal record or command ever brings it (R6, R107). -/
  | storeAddress (address : Nat)
  deriving DecidableEq, Repr

/-- The reasons a command has no meaning. -/
inductive Refusal where
  /-- Raised by no arm: every row of the table has its meaning. Safe. -/
  | notModelled (mnemonic : String)
  deriving DecidableEq, Repr

/-- The block after power-on, before its first output frame starts (R10, R61, R79, R95, R97, R101,
R137, R158, R181, R189; log 7, 20). -/
def State.reset : State :=
  { pending := [], resetLow := false, now := 0, free := 0, ct := .initial, rtu := .initial,
    out := .initial, comp := .initial, sf := .initial, os := .initial, mon := .initial,
    mlu := .initial, ce := .initial, nq := .initial }

end Sys2Proof.Machine
end

