-- ==== Sys2Proof/Machine/Ops.lean ====
section
/-! DEFINITION. Named operations every block uses: updates of one block, memory, counters, the free
values, and the offer of a notification. No operation touches the queue of waiting commands. -/

namespace Sys2Proof.Machine

/-! ### Updates of one block -/

def State.withCt (s : State) (x : CompositionTable) : State := { s with ct := x }
def State.withRtu (s : State) (x : RasterTiming) : State := { s with rtu := x }
def State.withOut (s : State) (x : OutputRaster) : State := { s with out := x }
def State.withComp (s : State) (x : Compositor) : State := { s with comp := x }
def State.withSf (s : State) (x : SpanFetcher) : State := { s with sf := x }
def State.withOs (s : State) (x : OverlayStore) : State := { s with os := x }
def State.withMon (s : State) (x : RegionMonitor) : State := { s with mon := x }
def State.withMlu (s : State) (x : ManagementUnit) : State := { s with mlu := x }
def State.withCe (s : State) (x : CommandEngine) : State := { s with ce := x }
def State.withNq (s : State) (x : NotificationQueue) : State := { s with nq := x }
def State.withNow (s : State) (t : Nat) : State := { s with now := t }
def State.withFree (s : State) (n : Nat) : State := { s with free := n }
def State.withResetLow (s : State) (b : Bool) : State := { s with resetLow := b }

/-- The reference clock reaches `t`; it never runs back (log 4). -/
def State.advanceTo (s : State) (t : Nat) : State := s.withNow (max s.now t)

/-! ### Memory -/

/-- The octet at an address; an unlisted address reads 0 (R97; log 22). -/
def Memory.read : Memory → Nat → Byte
  | [], _ => 0
  | (b, v) :: m, a => if a = b then v else Memory.read m a

/-- The memory with the octet at `a` set to `v`, in canonical form. -/
def Memory.write : Memory → Nat → Byte → Memory
  | [], a, v => if v = 0 then [] else [(a, v)]
  | (b, w) :: m, a, v =>
    if a < b then (if v = 0 then (b, w) :: m else (a, v) :: (b, w) :: m)
    else if a = b then (if v = 0 then m else (a, v) :: m)
    else (b, w) :: Memory.write m a v

/-- Canonical form: addresses strictly rising, no entry equal to what an unlisted address reads as. -/
abbrev Memory.Wf (m : Memory) : Prop :=
  m.Pairwise (fun c d => c.1 < d.1) ∧ ∀ c ∈ m, c.2 ≠ 0

/-- The `n` octets from `a` up. -/
def Memory.readRun (m : Memory) (a n : Nat) : List Byte :=
  (List.range n).map fun k => Memory.read m (a + k)

/-- Octets written from `a` up. -/
def Memory.writeRun : Memory → Nat → List Byte → Memory
  | m, _, [] => m
  | m, a, v :: vs => Memory.writeRun (Memory.write m a v) (a + 1) vs

/-- Octets written from `a` up, except at the addresses `skip` names (R104). -/
def Memory.writeMasked (skip : Nat → Bool) : Memory → Nat → List Byte → Memory
  | m, _, [] => m
  | m, a, v :: vs =>
    Memory.writeMasked skip (if skip a then m else Memory.write m a v) (a + 1) vs

/-! ### Counters -/

/-- One more, stopping at `limit` (conventions, Counters). -/
def stopAt (limit n : Nat) : Nat := if n < limit then n + 1 else n

/-- One more of a 16-bit counter (R190). -/
def countUp (n : Nat) : Nat := stopAt 65535 n

/-! ### Records by index -/

/-- The region record at an index of a bank (R1). -/
def CompositionSet.region (c : CompositionSet) (i : Nat) : Region := c.regions.getD i .default

/-- The palette entry at an index of a bank (R1, R7). -/
def CompositionSet.entry (c : CompositionSet) (i : Nat) : PaletteEntry :=
  c.palette.getD i (.default i)

/-- The cue record at an index of a bank (R1). -/
def CompositionSet.cue (c : CompositionSet) (i : Nat) : Cue := c.cues.getD i .default

/-- The monitor record of a region (R121). -/
def RegionMonitor.monitor (m : RegionMonitor) (i : Nat) : Monitor := m.monitors.getD i .initial

/-- One monitor record replaced. -/
def State.setMonitor (s : State) (i : Nat) (m : Monitor) : State :=
  s.withMon { s.mon with monitors := s.mon.monitors.set i m }

/-- A span status of a line buffer (R80). -/
def LineBuffer.statusOf (b : LineBuffer) (i : Nat) : SpanStatus := b.status.getD i .none

/-! ### Free values -/

/-- Two events of one moment whose order the manual leaves open: a free bit says which is taken
first. -/
def eitherOrder (first second : State → State) (s : State) : State :=
  let s' := s.withFree (s.free + 1)
  if Config.freeBit s.free then second (first s') else first (second s')

/-- What two blocks do at one moment, interleaved as free bits say; each block's own order stands
(R184). `fuel` is the number of items. -/
def interleave {α : Type} : Nat → Nat → List α → List α → List α
  | 0, _, xs, ys => xs ++ ys
  | _ + 1, _, [], ys => ys
  | _ + 1, _, xs, [] => xs
  | fuel + 1, n, x :: xs, y :: ys =>
    if Config.freeBit n then x :: interleave fuel (n + 1) xs (y :: ys)
    else y :: interleave fuel (n + 1) (x :: xs) ys

/-- `interleave` with its free bits drawn from the state; with one block silent there is no order to
choose. -/
def interleaved {α : Type} (xs ys : List α) (s : State) : List α × State :=
  if xs.isEmpty || ys.isEmpty then (xs ++ ys, s)
  else (interleave (xs.length + ys.length) s.free xs ys, s.withFree (s.free + xs.length + ys.length))

/-- The acts of an event, one after another. An act is what no other block's act falls into. -/
def runActs {α : Type} (acts : List (α → α)) (a : α) : α := acts.foldl (fun x act => act x) a

/-! ### Notifications (R183, R187) -/

/-- The mask position of a kind: its code less 1 (R187). -/
def Notice.position : Notice → Nat
  | .lock _ _ _ => 0
  | .editExpired => 1
  | .commitSkipped => 2
  | .underrun _ _ _ => 3
  | .cue _ => 4
  | .level _ _ _ _ => 5
  | .frozen _ _ => 6
  | .moving _ _ => 7
  | .measure _ _ => 8

/-- An offer to the NQ: masked kinds are passed over, a full queue drops and counts it (R183). -/
def offerWith (frame : BitVec 16) (n : Notice) (s : State) : State :=
  if s.nq.mask.getLsbD n.position then
    if s.nq.entries.length < Config.notifyPlaces then
      s.withNq { s.nq with entries := s.nq.entries ++ [⟨n, frame, s.mlu.assembled⟩] }
    else
      s.withNq { s.nq with lost := stopAt 255 s.nq.lost, lostTotal := countUp s.nq.lostTotal }
  else s

/-- An offer that carries the number of the output frame in progress (R58). -/
def offer (n : Notice) (s : State) : State := offerWith s.out.counter n s

/-- Several offers, in order. -/
def offerAll (ns : List Notice) (s : State) : State := ns.foldl (fun t n => offer n t) s

end Sys2Proof.Machine
end

