-- ==== Sys2Proof/Machine/Operands.lean ====
section
/-! DEFINITION. Fields of payloads and records on the wire: the integers of a payload (R196), the
codes of enumerated fields, the records of R197 in both directions, pixel words and packets. -/

namespace Sys2Proof.Machine

/-! ### Integers -/

/-- The integer that octets hold, high octet first (conventions, Wire order). -/
def bigEndian (l : List Byte) : Nat := l.foldl (fun a b => a * 256 + b.toNat) 0

/-- `n` octets that hold an integer, high octet first. -/
def toOctets (n v : Nat) : List Byte :=
  (List.range n).map fun i => BitVec.ofNat 8 (v / 256 ^ (n - 1 - i))

/-- One octet that holds an integer. -/
def octet (v : Nat) : Byte := BitVec.ofNat 8 v

/-- The field of `n` octets at a payload offset (R196, R197). -/
def fieldAt (p : List Byte) (offset n : Nat) : Nat := bigEndian ((p.drop offset).take n)

/-- The octet at a payload offset. -/
def octetAt (p : List Byte) (offset : Nat) : Byte := p.getD offset 0

/-- The offset reported by the first failing check, or none (R5, R13, R59, R105). -/
def firstFailing : List (Bool × Nat) → Option Nat
  | [] => none
  | (passes, offset) :: rest => if passes then firstFailing rest else some offset

/-! ### Colours (R196) -/

/-- The colour a 4-octet field packs. -/
def colourOf (v : Nat) : Colour := ⟨v / 1048576 % 1024, v / 1024 % 1024, v % 1024⟩

/-- The packed form of a colour. -/
def Colour.packed (c : Colour) : Nat := c.c0 * 1048576 + c.c1 * 1024 + c.c2

/-- The check of a packed colour: its two top bits are 0; each 10-bit channel is then 0..1023. -/
def colourLegal (v : Nat) : Bool := v < 1073741824

/-! ### Pixel words (R195) -/

/-- The colour a pixel word carries. -/
def pixelColour (p : Pixel) : Colour := colourOf p.toNat

/-- The pixel word of a colour. -/
def Colour.pixel (c : Colour) : Pixel := BitVec.ofNat 30 c.packed

/-- C0 of a pixel word, which RMON takes as luma (R122). -/
def luma (p : Pixel) : Nat := (pixelColour p).c0

/-- A pixel word at the output port: bits 31 and 30 are 0 (R195). -/
def pixelWord (p : Pixel) : Word := p.setWidth 32

/-- The kind code of a line start word (R195). -/
def LineKind.code : LineKind → Nat
  | .active => 1
  | .blank => 2
  | .mgmt => 3

/-- The kind a code names, or none for code 0 (R195). -/
def LineKind.ofCode : Nat → Option LineKind
  | 1 => some .active
  | 2 => some .blank
  | 3 => some .mgmt
  | _ => none

/-- A line start word at the output port (R195). -/
def startWord (kind : LineKind) (frameStart : Bool) : Word :=
  BitVec.ofNat 32 (2147483648 + (if frameStart then 16 else 0) + kind.code)

/-- The three octets of the packet area that a pixel word gives: the low 8 bits of C0, C1 and C2
(R138). -/
def areaOctets (p : Pixel) : List Byte :=
  [p.extractLsb' 20 8, p.extractLsb' 10 8, p.extractLsb' 0 8]

/-- The pixel words that carry an area of octets, three a word (R138). -/
def areaPixels : List Byte → List Pixel
  | a :: b :: c :: rest => Colour.pixel ⟨a.toNat, b.toNat, c.toNat⟩ :: areaPixels rest
  | _ => []

/-! ### Enumerated codes (R196) -/

def Source.code : Source → Nat
  | .input => 0
  | .fill => 1
  | .overlay => 2

def Source.ofCode : Nat → Source
  | 0 => .input
  | 1 => .fill
  | _ => .overlay

def RegionOp.code : RegionOp → Nat
  | .copy => 0
  | .blend => 1
  | .max => 2
  | .min => 3
  | .invert => 4
  | .dim => 5

def RegionOp.ofCode : Nat → RegionOp
  | 0 => .copy
  | 1 => .blend
  | 2 => .max
  | 3 => .min
  | 4 => .invert
  | _ => .dim

def CueAction.code : CueAction → Nat
  | .notifyCue => 0
  | .hideRegions => 1
  | .showRegions => 2

def CueAction.ofCode : Nat → CueAction
  | 0 => .notifyCue
  | 1 => .hideRegions
  | _ => .showRegions

def FenceMode.code : FenceMode → Nat
  | .off => 0
  | .reject => 1
  | .clip => 2

def FenceMode.ofCode : Nat → FenceMode
  | 0 => .off
  | 1 => .reject
  | _ => .clip

def LockState.code : LockState → Nat
  | .freeRun => 0
  | .acquiring => 1
  | .locked => 2
  | .holdover => 3

def LockCause.code : LockCause → Nat
  | .inputFrame => 1
  | .matched => 2
  | .mismatch => 3
  | .flywheel => 4
  | .acquireTimeout => 5
  | .holdoverLimit => 6

def Level.code : Level → Nat
  | .unknown => 0
  | .inRange => 1
  | .low => 2
  | .high => 3

def Slot.code : Slot → Nat
  | .free => 0
  | .reserved => 1
  | .filled => 2

/-- Status codes (R198). -/
def Status.code : Status → Nat
  | .ok => 0
  | .cancelled => 1
  | .badLength => 2
  | .badField => 3
  | .outOfRange => 4
  | .fenced => 5
  | .notOpen => 6
  | .alreadyOpen => 7
  | .editIsOpen => 8
  | .stale => 9
  | .unknownCode => 10
  | .overlap => 11

/-- 0x01 for yes, on, open, present; 0x00 otherwise (R196). -/
def flagCode (b : Bool) : Nat := if b then 1 else 0

/-! ### Records (R197) -/

/-- The region record at payload offset `o` (R197); the optional fields are stored as given (R3). -/
def regionAt (p : List Byte) (o : Nat) : Region :=
  let packed := fieldAt p (o + 29) 3
  { enable := octetAt p o = 1
    layer := fieldAt p (o + 1) 1
    x0 := fieldAt p (o + 2) 2
    y0 := fieldAt p (o + 4) 2
    x1 := fieldAt p (o + 6) 2
    y1 := fieldAt p (o + 8) 2
    source := Source.ofCode (fieldAt p (o + 10) 1 / 16)
    op := RegionOp.ofCode (fieldAt p (o + 10) 1 % 16)
    mask := BitVec.ofNat 3 (fieldAt p (o + 11) 1)
    opacity := fieldAt p (o + 12) 1
    fill := colourOf (fieldAt p (o + 13) 4)
    base := fieldAt p (o + 17) 3
    pitch := fieldAt p (o + 20) 2
    srcX := fieldAt p (o + 22) 2
    srcY := fieldAt p (o + 24) 2
    key := if octetAt p (o + 26) = 1 then some (octetAt p (o + 27)) else none
    measure := octetAt p (o + 28) = 1
    threshold := if packed / 1048576 = 1 then some (packed / 1024 % 1024, packed % 1024) else none
    freezeLimit := fieldAt p (o + 32) 1 }

/-- The 33 octets of a region record (R16, R197); absent fields are returned as 0 (R3). -/
def Region.octets (r : Region) : List Byte :=
  [octet (flagCode r.enable), octet r.layer] ++ toOctets 2 r.x0 ++ toOctets 2 r.y0
    ++ toOctets 2 r.x1 ++ toOctets 2 r.y1
    ++ [octet (r.source.code * 16 + r.op.code), octet r.mask.toNat, octet r.opacity]
    ++ toOctets 4 r.fill.packed ++ toOctets 3 r.base ++ toOctets 2 r.pitch
    ++ toOctets 2 r.srcX ++ toOctets 2 r.srcY
    ++ [octet (flagCode r.key.isSome), r.key.getD 0, octet (flagCode r.measure)]
    ++ toOctets 3 (match r.threshold with
        | none => 0
        | some (low, high) => 1048576 + low * 1024 + high)
    ++ [octet r.freezeLimit]

/-- The palette entry at a payload offset: colour, then opacity (R197). -/
def paletteEntryAt (p : List Byte) (o : Nat) : PaletteEntry :=
  { colour := colourOf (fieldAt p o 4), opacity := fieldAt p (o + 4) 1 }

/-- The 5 octets of a palette entry (R17). -/
def PaletteEntry.octets (e : PaletteEntry) : List Byte :=
  toOctets 4 e.colour.packed ++ [octet e.opacity]

/-- The cue record at a payload offset (R197). -/
def cueAt (p : List Byte) (o : Nat) : Cue :=
  { enable := octetAt p o = 1
    action := CueAction.ofCode (fieldAt p (o + 1) 1)
    line := fieldAt p (o + 2) 2
    regions := BitVec.ofNat 16 (fieldAt p (o + 4) 2) }

/-- The 6 octets of a cue record (R18). -/
def Cue.octets (c : Cue) : List Byte :=
  [octet (flagCode c.enable), octet c.action.code] ++ toOctets 2 c.line
    ++ toOctets 2 c.regions.toNat

/-- The fence record at a payload offset (R197). -/
def fenceAt (p : List Byte) (o : Nat) : Fence :=
  { mode := FenceMode.ofCode (fieldAt p o 1)
    base := fieldAt p (o + 1) 3
    pitch := fieldAt p (o + 4) 2
    fx0 := fieldAt p (o + 6) 2
    fx1 := fieldAt p (o + 8) 2
    fy0 := fieldAt p (o + 10) 2
    fy1 := fieldAt p (o + 12) 2 }

/-- The 14 octets of a fence record (R106). -/
def Fence.octets (f : Fence) : List Byte :=
  [octet f.mode.code] ++ toOctets 3 f.base ++ toOctets 2 f.pitch ++ toOctets 2 f.fx0
    ++ toOctets 2 f.fx1 ++ toOctets 2 f.fy0 ++ toOctets 2 f.fy1

/-- Base, pitch and point at a payload offset (R197). -/
def viewAt (p : List Byte) (o : Nat) : View :=
  { base := fieldAt p o 3, pitch := fieldAt p (o + 3) 2, x := fieldAt p (o + 5) 2,
    y := fieldAt p (o + 7) 2 }

/-- The free-run parameters of a SET_TIMING payload (R197). -/
def freeRunAt (p : List Byte) : FreeRun :=
  { geometry :=
      { total := fieldAt p 0 2, active := fieldAt p 2 2, firstActive := fieldAt p 4 2,
        width := fieldAt p 6 2, mgmt := fieldAt p 8 1 }
    period := fieldAt p 9 3
    holdoverLimit := fieldAt p 12 1
    slate := colourOf (fieldAt p 13 4) }

/-- The MEASURE data of a measurement record, and the figures of READ_MEASURE in their wider fields
(R198, R199): `wc` and `ws` are the octets of count and sum. -/
def Measurement.octets (wc ws : Nat) (m : Measurement) : List Byte :=
  toOctets wc m.count ++ toOctets ws m.sum ++ toOctets 2 m.min ++ toOctets 2 m.max
    ++ [octet (flagCode m.mean.isSome)] ++ toOctets 2 (m.mean.getD 0)

/-- The data octets of a notification (R199). -/
def Notice.data : Notice → List Byte
  | .lock previous new cause => [octet previous.code, octet new.code, octet cause.code]
  | .editExpired => []
  | .commitSkipped => []
  | .underrun region line late =>
    [octet region] ++ toOctets 2 line ++ [if late then 0x02 else 0x01]
  | .cue index => [octet index]
  | .level region previous new mean =>
    [octet region, octet previous.code, octet new.code] ++ toOctets 2 mean
  | .frozen region count => [octet region, octet count]
  | .moving region count => [octet region, octet count]
  | .measure region record => [octet region] ++ record.octets 4 5

/-! ### Packets (R139, R142) -/

/-- One bit fed into the CRC register (R142). -/
def crcBit (r : BitVec 16) (bit : Bool) : BitVec 16 :=
  if (r.msb != bit) then (r <<< 1) ^^^ 0x1021#16 else r <<< 1

/-- One octet fed in, most significant bit first (R142). -/
def crcOctet (r : BitVec 16) (o : Byte) : BitVec 16 :=
  (List.range 8).foldl (fun r i => crcBit r (o.getLsbD (7 - i))) r

/-- The CRC of octets (R142). -/
def crc (l : List Byte) : BitVec 16 := l.foldl crcOctet 0xFFFF#16

/-- A packet whose octets between start and CRC are `body`, its CRC computed anew (R142). -/
def sealPacket (body : List Byte) : Packet := [0x5C] ++ body ++ toOctets 2 (crc body).toNat

/-- The octets the CRC of a packet covers: destination through the last payload octet (R142). -/
def packetBody (p : Packet) : List Byte := (p.drop 1).take (p.length - 3)

/-- The CRC a packet carries equals the CRC computed over it (R142). -/
def packetCrcGood (p : Packet) : Bool :=
  bigEndian (p.drop (p.length - 2)) = (crc (packetBody p)).toNat

/-- The payload of a packet (R139). -/
def packetPayload (p : Packet) : List Byte := (p.drop 7).take (p.length - 9)

end Sys2Proof.Machine
end

