-- ==== Sys2Proof/Machine/Flags.lean ====
section
/-! DEFINITION. The flags and counts of the block that commands consult or clear: gates, the counters
of R190, and the free places of the engine (R161). -/

namespace Sys2Proof.Machine

/-- A controller's command can reach the CE: RESET is high (R61) and the power-on clearing of the store
has finished (R97, R158; log 1, 17). -/
def State.reachable (s : State) : Bool := !s.resetLow && !s.os.clearing

/-- An addressed command can reach the CE: the node also has an address (R146, R158, R181; log 1). -/
def State.addressable (s : State) : Bool :=
  s.reachable && decide (1 ≤ s.mlu.address ∧ s.mlu.address ≤ 30)

/-- All 24 counters at 0 (R190, R191). -/
def clearCounters (s : State) : State :=
  let t := s.withMlu { s.mlu with crcErrors := 0, framingErrors := 0, notForwarded := 0,
                                  misaddressed := 0 }
  let t := t.withCe { t.ce with discarded := 0, duplicates := 0 }
  let t := t.withRtu { t.rtu with lockLosses := 0 }
  let t := t.withNq { t.nq with lostTotal := 0 }
  t.withSf { t.sf with underruns := List.replicate 16 0 }

/-- Responses that occupy sequenced slots (R160). -/
def CommandEngine.sequencedResponses (c : CommandEngine) : Nat :=
  c.responses.countP (fun r => !r.immediate)

/-- Queue place free (R161). -/
def CommandEngine.placeFree (c : CommandEngine) : Bool := c.queue.length < Config.commandPlaces

/-- Sequenced slot free (R161). -/
def CommandEngine.slotFree (c : CommandEngine) : Bool :=
  c.sequencedResponses + c.reservations < Config.commandPlaces

/-- A command is discarded at intake: the two counts of R165. -/
def discardCommand (s : State) : State :=
  s.withCe { s.ce with discarded := countUp s.ce.discarded,
                       discardedSince := stopAt 255 s.ce.discardedSince }

end Sys2Proof.Machine
end

