-- ==== Sys2Proof/Machine/CompositionSet.lean ====
section
/-! DEFINITION. The commands that write the pending bank and read either bank (chapter 1). -/

namespace Sys2Proof.Machine

/-- How a command that was begun leaves the engine: completed with a status and data, or staying in
execution (R172). -/
inductive Result where
  | done (status : Status) (data : List Byte)
  | stays (progress : Progress)
  deriving DecidableEq, Repr

/-- A refusal by a field check (R173). -/
def Result.badField (offset : Nat) : Result := .done .badField [octet offset]

/-- Success without data (R173). -/
def Result.ok : Result := .done .ok []

/-- Checks in order, then the effect: the first failing check ends the command with BAD_FIELD and
nothing else (R5, R11, R59, R105). -/
def checked (checks : List (Bool × Nat)) (effect : State → State × Result) (s : State) :
    State × Result :=
  match firstFailing checks with
  | some offset => (s, .badField offset)
  | none => effect s

/-! ### SET_REGION -/

/-- Checks 1 to 21 of SET_REGION with the offsets they report (R5, R197). -/
def regionRangeChecks (p : List Byte) : List (Bool × Nat) :=
  let x0 := fieldAt p 3 2
  let y0 := fieldAt p 5 2
  let x1 := fieldAt p 7 2
  let y1 := fieldAt p 9 2
  let pitch := fieldAt p 21 2
  [ (fieldAt p 0 1 ≤ 15, 0), (fieldAt p 1 1 ≤ 1, 1), (fieldAt p 2 1 ≤ 15, 2),
    (x0 ≤ 4095, 3), (y0 ≤ 4095, 5), (x1 ≤ 4095, 7), (y1 ≤ 4095, 9), (x0 ≤ x1, 7), (y0 ≤ y1, 9),
    (fieldAt p 11 1 / 16 ≤ 2, 11), (fieldAt p 11 1 % 16 ≤ 5, 11), (fieldAt p 12 1 ≤ 7, 12),
    (fieldAt p 13 1 ≤ 16, 13), (colourLegal (fieldAt p 14 4), 14),
    (fieldAt p 18 3 ≤ 1048575, 18), (decide (1 ≤ pitch) && decide (pitch ≤ 4096), 21),
    (fieldAt p 23 2 ≤ 4095, 23), (fieldAt p 25 2 ≤ 4095, 25), (fieldAt p 27 1 ≤ 1, 27),
    (fieldAt p 29 1 ≤ 1, 29), (fieldAt p 30 3 / 1048576 ≤ 1, 30) ]

/-- Operation and source agree (R6, check 22). -/
def opFitsSource (op : RegionOp) (source : Source) : Bool :=
  match op with
  | .copy | .blend | .max | .min => decide (source ≠ .input)
  | .invert | .dim => decide (source = .input)

/-- low ≤ high of a present threshold (R6, check 24). -/
def thresholdOrdered : Option (Nat × Nat) → Bool
  | none => true
  | some (low, high) => decide (low ≤ high)

/-- Checks 22 to 26 of SET_REGION with the offsets they report (R6, R197). -/
def regionWholeChecks (r : Region) : List (Bool × Nat) :=
  let overlay := decide (r.source = .overlay)
  [ (opFitsSource r.op r.source, 11), (decide (r.mask ≠ 0), 12), (thresholdOrdered r.threshold, 30),
    (!overlay || decide (r.srcX + (r.x1 - r.x0) < r.pitch), 23),
    (!overlay ||
      decide (r.base + (r.srcY + r.y1 - r.y0) * r.pitch + r.srcX + (r.x1 - r.x0)
        < Config.storeOctets), 18) ]

/-- A record of the pending bank replaced; the other 15 regions, palette and cues kept (R12). -/
def putRegion (i : Nat) (r : Region) (s : State) : State :=
  s.withCt { s.ct with pendingSet :=
    { s.ct.pendingSet with regions := s.ct.pendingSet.regions.set i r } }

/-- A set command finds the edit CLOSED: NOT_OPEN before any check (R11). -/
def whileOpen (run : State → State × Result) (s : State) : State × Result :=
  if s.ct.editOpen then run s else (s, .done .notOpen [])

/-- SET_REGION (R12). -/
def runSetRegion (p : List Byte) : State → State × Result :=
  whileOpen (checked (regionRangeChecks p ++ regionWholeChecks (regionAt p 1)) fun s =>
    (putRegion (fieldAt p 0 1) (regionAt p 1) s, .ok))

/-! ### SET_PALETTE -/

/-- Checks 3 and 4 of SET_PALETTE for entry `k` (R13). -/
def paletteEntryChecks (p : List Byte) (k : Nat) : List (Bool × Nat) :=
  [ (colourLegal (fieldAt p (2 + 5 * k) 4), 2 + 5 * k),
    (fieldAt p (6 + 5 * k) 1 ≤ 16, 6 + 5 * k) ]

/-- The checks of SET_PALETTE; `n` is the number of entries the length implies (R13). -/
def paletteChecks (p : List Byte) (n : Nat) : List (Bool × Nat) :=
  [ (decide (fieldAt p 1 1 = n), 1), (decide (fieldAt p 0 1 + n ≤ 256), 0) ]
    ++ (List.range n).flatMap (paletteEntryChecks p)

/-- `n` entries of a palette replaced from index `first` up (R13). -/
def putEntries (p : List Byte) (first : Nat) : Nat → List PaletteEntry → List PaletteEntry
  | 0, palette => palette
  | n + 1, palette =>
    (putEntries p first n palette).set (first + n) (paletteEntryAt p (2 + 5 * n))

/-- SET_PALETTE (R13). -/
def runSetPalette (p : List Byte) : State → State × Result :=
  let n := (p.length - 2) / 5
  whileOpen (checked (paletteChecks p n) fun s =>
    (s.withCt { s.ct with pendingSet :=
      { s.ct.pendingSet with palette := putEntries p (fieldAt p 0 1) n s.ct.pendingSet.palette } },
     .ok))

/-! ### SET_CUE -/

/-- The checks of SET_CUE (R14). -/
def cueChecks (p : List Byte) : List (Bool × Nat) :=
  [ (fieldAt p 0 1 ≤ 7, 0), (fieldAt p 1 1 ≤ 1, 1), (fieldAt p 2 1 ≤ 2, 2),
    (fieldAt p 3 2 ≤ 4095, 3) ]

/-- SET_CUE (R14). -/
def runSetCue (p : List Byte) : State → State × Result :=
  whileOpen (checked (cueChecks p) fun s =>
    (s.withCt { s.ct with pendingSet :=
      { s.ct.pendingSet with cues := s.ct.pendingSet.cues.set (fieldAt p 0 1) (cueAt p 1) } },
     .ok))

/-! ### Reads -/

/-- The bank a selector names (R15, R196). -/
def bankOf (p : List Byte) (s : State) : CompositionSet :=
  if fieldAt p 0 1 = 0 then s.ct.pendingSet else s.ct.activeSet

/-- The selector check, made before any other (R15). -/
def selectorCheck (p : List Byte) : Bool × Nat := (fieldAt p 0 1 ≤ 1, 0)

/-- READ_REGION (R16). -/
def runReadRegion (p : List Byte) : State → State × Result :=
  checked [selectorCheck p, (fieldAt p 1 1 ≤ 15, 1)] fun s =>
    (s, .done .ok ((bankOf p s).region (fieldAt p 1 1)).octets)

/-- READ_PALETTE (R17). -/
def runReadPalette (p : List Byte) : State → State × Result :=
  let first := fieldAt p 1 1
  let count := fieldAt p 2 1
  checked [selectorCheck p, (decide (1 ≤ count) && decide (count ≤ 32), 2),
      (decide (first + count ≤ 256), 1)] fun s =>
    (s, .done .ok ((List.range count).flatMap fun k => ((bankOf p s).entry (first + k)).octets))

/-- READ_CUE (R18). -/
def runReadCue (p : List Byte) : State → State × Result :=
  checked [selectorCheck p, (fieldAt p 1 1 ≤ 7, 1)] fun s =>
    (s, .done .ok ((bankOf p s).cue (fieldAt p 1 1)).octets)

end Sys2Proof.Machine
end

