-- ==== Sys2Proof/Machine/Edits.lean ====
section
/-! DEFINITION. Edits and commits (chapter 2): the commands, expiry, and the CT's side of the
activation event. -/

namespace Sys2Proof.Machine

/-- The whole pending bank becomes a copy of the active bank and the edit is CLOSED (R25, R33). -/
def discardEdit (s : State) : State :=
  s.withCt { s.ct with pendingSet := s.ct.activeSet, editOpen := false, timer := 0 }

/-- The edit is OPEN with its timer set (R22). -/
def openEdit (n : Nat) (s : State) : State :=
  s.withCt { s.ct with editOpen := true, timer := n }

/-- A commit request is set with origin COMMAND, or joins a RESET request (R21). -/
def requestCommit (s : State) : State :=
  s.withCt { s.ct with request := some (s.ct.request.getD .command) }

/-- EDIT_OPEN (R22, R23). -/
def runEditOpen (p : List Byte) (s : State) : State × Result :=
  let n := fieldAt p 0 1
  if s.ct.editOpen then (s, .done .alreadyOpen [])
  else if n < 1 ∨ 64 < n then (s, .badField 0)
  else if s.ct.request.isSome then (s, .stays .resetCommit)
  else (openEdit n s, .ok)

/-- EDIT_CLOSE in its three modes (R24 to R27). -/
def runEditClose (p : List Byte) (s : State) : State × Result :=
  if s.ct.editOpen then
    match fieldAt p 0 1 with
    | 0 => (discardEdit s, .ok)
    | 1 => (s.withCt { s.ct with editOpen := false, timer := 0 }, .ok)
    | 2 => (requestCommit (s.withCt { s.ct with editOpen := false, timer := 0 }), .stays .commit)
    | _ => (s, .badField 0)
  else (s, .done .notOpen [])

/-- A sequenced COMMIT (R28). -/
def runCommit (s : State) : State × Result :=
  if s.ct.editOpen then (s, .done .editIsOpen []) else (requestCommit s, .stays .commit)

/-- A broadcast COMMIT when it is executed: none when it ends at once (R29). -/
def runBroadcastCommit (p : List Byte) (s : State) : State × Option Progress :=
  if p ≠ [] then (s, none)
  else if s.ct.editOpen then (offer .commitSkipped s, none)
  else (requestCommit s, some .commit)

/-- The edit expires: DISCARD's copy, CLOSED, and EDIT_EXPIRED (R33). -/
def expireEdit (s : State) : State := offer .editExpired (discardEdit s)

/-- An activation event with the edit OPEN: the timer counts down, and at 0 the edit expires (R33). -/
def countEdit (s : State) : State :=
  if s.ct.timer ≤ 1 then expireEdit s
  else s.withCt { s.ct with timer := s.ct.timer - 1 }

/-- The commit-applied list: indices whose rectangle or measure differs between the banks, ascending
(R31). -/
def changedRegions (before after : CompositionSet) : List Nat :=
  (List.range 16).filter fun i =>
    let a := before.region i
    let b := after.region i
    decide (a.x0 ≠ b.x0 ∨ a.y0 ≠ b.y0 ∨ a.x1 ≠ b.x1 ∨ a.y1 ≠ b.y1 ∨ a.measure ≠ b.measure)

/-- The active bank becomes a copy of the pending bank and the request absent (R30). -/
def applyCommit (s : State) : State :=
  s.withCt { s.ct with activeSet := s.ct.pendingSet, request := none }

/-- What NODE_RESET does to the CT (R36). -/
def resetCt (s : State) : State :=
  s.withCt { s.ct with pendingSet := .default, editOpen := false, timer := 0,
                       request := some .reset }

end Sys2Proof.Machine
end

