-- ==== Sys2Proof/Machine/Monitoring.lean ====
section
/-! DEFINITION. The Region Monitor (chapter 7). -/

namespace Sys2Proof.Machine

/-! ### Accumulation -/

/-- The accumulators of a monitor record at 0 (R123). -/
def Monitor.cleared (m : Monitor) : Monitor := { m with count := 0, sum := 0, min := 0, max := 0 }

/-- One word with C0 value `v` is counted (R122). -/
def Monitor.take (m : Monitor) (v : Nat) : Monitor :=
  { m with
    count := m.count + 1
    sum := m.sum + v
    min := if m.count = 0 ∨ v < m.min then v else m.min
    max := if m.count = 0 ∨ m.max < v then v else m.max }

/-- The words of a line that a region measures: positions x0 up to the smallest of x1, W − 1 and the
last word (R122). -/
def measuredWords (r : Region) (width : Nat) (words : List Pixel) : List Pixel :=
  (words.take (min (r.x1 + 1) width)).drop r.x0

/-- A region's monitor record after one ACTIVE line with index `y` (R122). -/
def accumulateRegion (r : Region) (g : Geometry) (y : Nat) (words : List Pixel) (m : Monitor) :
    Monitor :=
  if r.measure ∧ r.y0 ≤ y ∧ y ≤ r.y1 then
    (measuredWords r g.width words).foldl (fun m p => m.take (luma p)) m
  else m

/-- RMON takes an output ACTIVE line of a frame in input timing (R122). -/
def accumulateLine (y : Nat) (words : List Pixel) (s : State) : State :=
  if s.mon.measuring ∧ s.out.inputTimed ∧ y < s.out.geometry.active then
    let step := fun i m => accumulateRegion (s.ct.activeSet.region i) s.out.geometry y words m
    s.withMon { s.mon with monitors := s.mon.monitors.mapIdx step }
  else s

/-- The measurement of a frame begins at set-ready (R123). -/
def beginMeasurement (s : State) : State :=
  s.withMon { measuring := true, complete := s.out.inputTimed,
              monitors := s.mon.monitors.map Monitor.cleared }

/-- A change of lock state while measuring makes the frame incomplete (R123). -/
def spoilMeasurement (s : State) : State :=
  if s.mon.measuring then s.withMon { s.mon with complete := false } else s

/-- Commit-applied clears the monitor records of the listed regions; report settings stay (R131). -/
def clearMonitors (list : List Nat) (s : State) : State :=
  let step := fun i m =>
    if list.contains i then
      { Monitor.cleared m with record := none, level := .unknown, stillness := 0, frozen := false }
    else m
  s.withMon { s.mon with monitors := s.mon.monitors.mapIdx step }

/-! ### The latch -/

/-- The measurement record of a latch (R125). -/
def Monitor.measurement (m : Monitor) (frame : BitVec 16) : Measurement :=
  { frame := frame, count := m.count, sum := m.sum
    min := if m.count = 0 then 0 else m.min
    max := if m.count = 0 then 0 else m.max
    mean := if m.count = 0 then none else some (m.sum / m.count) }

/-- The level a mean has against a threshold (R127). -/
def levelOf : Option (Nat × Nat) → Nat → Level
  | none, _ => .unknown
  | some (low, high), mean => if mean < low then .low else if high < mean then .high else .inRange

/-- Whether a change of level queues a LEVEL notification (R128). -/
def levelReported (previous new : Level) : Bool :=
  decide (new ≠ previous) && decide (new ≠ .unknown)
    && !(decide (previous = .unknown) && decide (new = .inRange))

/-- Step 2 of a latch (R127, R128). -/
def latchLevel (i : Nat) (m : Measurement) (s : State) : State :=
  match m.mean with
  | none => s
  | some mean =>
    let old := (s.mon.monitor i).level
    let new := levelOf (s.ct.activeSet.region i).threshold mean
    let t := s.setMonitor i { s.mon.monitor i with level := new }
    if levelReported old new then offer (.level i old new mean) t else t

/-- Two latches of equal sum, min and max, the earlier one not empty (R129). -/
def sameFigures (previous : Option Measurement) (m : Measurement) : Bool :=
  match previous with
  | none => false
  | some q => decide (0 < q.count ∧ q.sum = m.sum ∧ q.min = m.min ∧ q.max = m.max)

/-- FROZEN or MOVING after the stillness count is updated (R130). -/
def reportStillness (i : Nat) (s : State) : State :=
  let m := s.mon.monitor i
  let limit := (s.ct.activeSet.region i).freezeLimit
  if 1 ≤ limit ∧ limit ≤ m.stillness ∧ m.frozen = false then
    offer (.frozen i m.stillness) (s.setMonitor i { m with frozen := true })
  else if m.stillness = 0 ∧ m.frozen then
    offer (.moving i m.stillness) (s.setMonitor i { m with frozen := false })
  else s

/-- Step 3 of a latch (R129, R130). -/
def latchStillness (i : Nat) (previous : Option Measurement) (m : Measurement) (s : State) :
    State :=
  if m.count = 0 then s
  else
    let k := if sameFigures previous m then stopAt 255 (s.mon.monitor i).stillness else 0
    reportStillness i (s.setMonitor i { s.mon.monitor i with stillness := k })

/-- Step 4 of a latch: the report countdown (R134). -/
def latchReport (i : Nat) (m : Measurement) (s : State) : State :=
  let r := s.mon.monitor i
  if r.interval = 0 then s
  else if r.countdown ≤ 1 then
    offerWith m.frame (.measure i m) (s.setMonitor i { r with countdown := r.interval })
  else s.setMonitor i { r with countdown := r.countdown - 1 }

/-- The latch of region `i` as it stands in `s`, one act for each notification it may offer, in the order
of R126. -/
def latchActs (s : State) (i : Nat) : List (State → State) :=
  if (s.ct.activeSet.region i).measure then
    let old := s.mon.monitor i
    let m := old.measurement s.out.counter
    [ fun t => latchLevel i m (t.setMonitor i { old with record := some m }),
      latchStillness i old.record m, latchReport i m ]
  else []

/-- RMON takes a frame end in `s`: a complete frame is latched region by region, an incomplete one
discarded (R124, R126). -/
def frameEndActs (s : State) : List (State → State) :=
  if s.mon.measuring then
    (fun t => t.withMon { t.mon with measuring := false }) ::
      (if s.mon.complete then (List.range 16).flatMap (latchActs s) else [])
  else []

/-- RMON takes an output frame start: a frame still measured is discarded (R124). -/
def discardMeasurement (s : State) : State :=
  if s.mon.measuring then s.withMon { s.mon with measuring := false } else s

/-! ### Commands -/

/-- SET_REPORT (R133). -/
def runSetReport (p : List Byte) : State → State × Result :=
  let i := fieldAt p 0 1
  let n := fieldAt p 1 1
  checked [(decide (i ≤ 15), 0)] fun s =>
    (s.setMonitor i { s.mon.monitor i with interval := n, countdown := n }, .ok)

/-- The 28 data octets of READ_MEASURE (R135, R198). -/
def Monitor.reportOctets (m : Monitor) : List Byte :=
  let shown := m.record.getD ⟨0, 0, 0, 0, 0, none⟩
  [octet (flagCode m.record.isSome)] ++ toOctets 2 shown.frame.toNat ++ shown.octets 8 8
    ++ [octet m.level.code, octet m.stillness]

/-- READ_MEASURE (R135). -/
def runReadMeasure (p : List Byte) : State → State × Result :=
  let i := fieldAt p 0 1
  checked [(decide (i ≤ 15), 0)] fun s => (s, .done .ok (s.mon.monitor i).reportOctets)

end Sys2Proof.Machine
end

