-- ==== Sys2Proof/Machine/Store.lean ====
section
/-! DEFINITION. The overlay store, its arbiter, its fences and the shape of store operations
(chapter 6). What completes a store command stands in StoreRun. -/

namespace Sys2Proof.Machine

/-! ### The arbiter (R98, R99) -/

/-- The arbiter's grant: with the store free and a request waiting, the SF's first (R98). -/
def OverlayStore.grant (o : OverlayStore) : OverlayStore :=
  match o.busy, o.sfWaiting, o.ceWaiting with
  | none, some r, _ => { o with sfWaiting := none, busy := some ⟨.sf, r, false⟩ }
  | none, none, some r => { o with ceWaiting := none, busy := some ⟨.ce, r, false⟩ }
  | _, _, _ => o

/-- The arbiter takes what is waiting. -/
def grantStore (s : State) : State := s.withOs s.os.grant

/-- The last address of a request lies in the store (R98). -/
def BurstRequest.inStore (r : BurstRequest) : Bool :=
  decide (r.addr + r.len ≤ Config.storeOctets)

/-! ### Fences (R101 to R106) -/

/-- The octet at `a` is inside the fence (R102). -/
def Fence.contains (f : Fence) (a : Nat) : Bool :=
  let off := a - f.base
  decide (f.base ≤ a ∧ f.fy0 ≤ off / f.pitch ∧ off / f.pitch ≤ f.fy1 ∧
    f.fx0 ≤ off % f.pitch ∧ off % f.pitch ≤ f.fx1)

/-- The octet at `a` is inside at least one fence in CLIP mode (R104). -/
def clippedBy (fences : List Fence) (a : Nat) : Bool :=
  fences.any fun f => decide (f.mode = .clip) && f.contains a

/-- The checks of SET_FENCE (R105, R197). -/
def fenceChecks (p : List Byte) : List (Bool × Nat) :=
  let f := fenceAt p 1
  [ (fieldAt p 0 1 ≤ 3, 0), (fieldAt p 1 1 ≤ 2, 1), (f.base ≤ 1048575, 2),
    (decide (1 ≤ f.pitch) && decide (f.pitch ≤ 4096), 5), (f.fx0 ≤ 4095, 7), (f.fx1 ≤ 4095, 9),
    (f.fy0 ≤ 4095, 11), (f.fy1 ≤ 4095, 13), (f.fx0 ≤ f.fx1, 9), (f.fy0 ≤ f.fy1, 13) ]

/-- SET_FENCE (R105). -/
def runSetFence (p : List Byte) : State → State × Result :=
  checked (fenceChecks p) fun s =>
    (s.withOs { s.os with fences := s.os.fences.set (fieldAt p 0 1) (fenceAt p 1) }, .ok)

/-- READ_FENCE (R106). -/
def runReadFence (p : List Byte) : State → State × Result :=
  checked [(fieldAt p 0 1 ≤ 3, 0)] fun s =>
    (s, .done .ok (s.os.fences.getD (fieldAt p 0 1) .default).octets)

/-! ### Footprints (R107 to R115) -/

/-- The address of the point (x + c, y + r) of a view (R96). -/
def View.at (v : View) (r c : Nat) : Nat := v.base + (v.y + r) * v.pitch + v.x + c

/-- Octets in a row of the operation; a write or read is one row (R108, R110, R112, R115). -/
def StoreParams.width : StoreParams → Nat
  | .write _ indices => indices.length
  | .fill _ w _ _ => w
  | .copy _ _ w _ => w
  | .read _ count => count

/-- Rows of the operation. -/
def StoreParams.height : StoreParams → Nat
  | .write _ _ => 1
  | .fill _ _ h _ => h
  | .copy _ _ _ h => h
  | .read _ _ => 1

/-- The view written, or for a read the view read. -/
def StoreParams.target : StoreParams → View
  | .write v _ => v
  | .fill v _ _ _ => v
  | .copy _ dst _ _ => dst
  | .read v _ => v

/-- The view read by a read or a copy. -/
def StoreParams.origin : StoreParams → View
  | .copy src _ _ _ => src
  | p => p.target

/-- The operation writes the store (R103). -/
def StoreParams.writes : StoreParams → Bool
  | .read _ _ => false
  | _ => true

/-- Each burst or step begins with a read burst: a copy or a read (R114, R115). -/
def StoreParams.readsFirst : StoreParams → Bool
  | .copy _ _ _ _ => true
  | .read _ _ => true
  | _ => false

/-- First and last address of a side of the operation: its linear footprint (R113). -/
def StoreParams.linear (p : StoreParams) (v : View) : Nat × Nat :=
  (v.at 0 0, v.at (p.height - 1) (p.width - 1))

/-- Some destination octet satisfies `f`. -/
def StoreParams.anyTarget (p : StoreParams) (f : Nat → Bool) : Bool :=
  (List.range p.height).any fun r => (List.range p.width).any fun c => f (p.target.at r c)

/-! ### Checks before the first burst (R107) -/

/-- The range checks of a view at payload offset `o` (R108, R112). -/
def viewChecks (v : View) (o : Nat) : List (Bool × Nat) :=
  [ (v.base ≤ 1048575, o), (decide (1 ≤ v.pitch) && decide (v.pitch ≤ 4096), o + 3),
    (v.x ≤ 4095, o + 5), (v.y ≤ 4095, o + 7) ]

/-- A size 1..4096 (R110). -/
def sizeLegal (n : Nat) : Bool := decide (1 ≤ n) && decide (n ≤ 4096)

/-- Groups 1 and 2 of R107 with the offsets they report. -/
def StoreParams.fieldChecks : StoreParams → List (Bool × Nat)
  | .write v _ => viewChecks v 0
  | .fill v w h _ =>
    viewChecks v 0 ++ [(sizeLegal w, 9), (sizeLegal h, 11), (v.x + w ≤ v.pitch, 5)]
  | .copy src dst w h =>
    viewChecks src 0 ++ viewChecks dst 9
      ++ [(sizeLegal w, 18), (sizeLegal h, 20), (src.x + w ≤ src.pitch, 5),
          (dst.x + w ≤ dst.pitch, 14)]
  | .read v count => viewChecks v 0 ++ [(decide (1 ≤ count) && decide (count ≤ 200), 9)]

/-- Group 3 of R107: source and destination lie in the store. -/
def StoreParams.inStore (p : StoreParams) : Bool :=
  decide ((p.linear p.origin).2 ≤ 1048575 ∧ (p.linear p.target).2 ≤ 1048575)

/-- Group 4 of R107: a copy whose linear footprints overlap under unequal pitches (R113). -/
def StoreParams.overlaps : StoreParams → Bool
  | .copy src dst w h =>
    let p := StoreParams.copy src dst w h
    decide (src.pitch ≠ dst.pitch ∧ (p.linear src).1 ≤ (p.linear dst).2 ∧
      (p.linear dst).1 ≤ (p.linear src).2)
  | _ => false

/-- Group 5 of R107: the lowest index of a REJECT fence that contains a destination octet (R103). -/
def StoreParams.fencedBy (p : StoreParams) (fences : List Fence) : Option Nat :=
  if p.writes then
    (List.range fences.length).find? fun i =>
      let f := fences.getD i .default
      decide (f.mode = .reject) && p.anyTarget f.contains
  else none

/-- The refusal of the CHECKING phase, or none (R107). -/
def StoreParams.refusal (p : StoreParams) (fences : List Fence) : Option (Status × List Byte) :=
  match firstFailing p.fieldChecks with
  | some offset => some (.badField, [octet offset])
  | none =>
    if !p.inStore then some (.outOfRange, [])
    else if p.overlaps then some (.overlap, [])
    else match p.fencedBy fences with
      | some i => some (.fenced, [octet i])
      | none => none

/-! ### Bursts and copy steps (R109, R111, R114) -/

/-- Bursts of a run of `n` octets (R109). -/
def burstsOf (n : Nat) : Nat := (n + 63) / 64

/-- Bursts, or copy steps, of the whole operation. -/
def StoreParams.steps (p : StoreParams) : Nat := p.height * burstsOf p.width

/-- The copy runs from its highest address down: equal pitches and d > s (R113). -/
def StoreParams.descending : StoreParams → Bool
  | .copy src dst _ _ => decide (src.pitch = dst.pitch ∧ src.at 0 0 < dst.at 0 0)
  | _ => false

/-- Row, first column and length of step `n` (R109, R111, R114). -/
def StoreParams.cut (p : StoreParams) (n : Nat) : Nat × Nat × Nat :=
  let b := burstsOf p.width
  let r := n / b
  let j := n % b
  if p.descending then
    let hi := p.width - 64 * j
    (p.height - 1 - r, hi - 64, hi - (hi - 64))
  else (r, 64 * j, min 64 (p.width - 64 * j))

/-- First destination address and length of step `n`. -/
def StoreParams.targetRun (p : StoreParams) (n : Nat) : Nat × Nat :=
  let (r, c, len) := p.cut n
  (p.target.at r c, len)

/-- First source address and length of step `n`. -/
def StoreParams.originRun (p : StoreParams) (n : Nat) : Nat × Nat :=
  let (r, c, len) := p.cut n
  (p.origin.at r c, len)

/-- Octets of a run that CLIP fences mask (R104). -/
def clippedIn (fences : List Fence) (a len : Nat) : Nat :=
  (List.range len).countP fun k => clippedBy fences (a + k)

/-- Steps whose write burst would be skipped whole are passed over, their octets counted as clipped
(R104, R114). `fuel` bounds the steps passed. -/
def StoreOp.passClipped : Nat → StoreOp → StoreOp
  | 0, op => op
  | fuel + 1, op =>
    let (a, len) := op.params.targetRun op.next
    if op.params.writes ∧ op.next < op.params.steps ∧ clippedIn op.fences a len = len then
      StoreOp.passClipped fuel { op with next := op.next + 1, clipped := op.clipped + len }
    else op

/-- The operation's next step after those passed over. -/
def StoreOp.settled (op : StoreOp) : StoreOp := op.passClipped op.params.steps

/-- An operation whose requester has ended it, as it stands when its granted write burst completes. Steps
clipped whole behind its last write burst are passed over, so that the counts cover the footprint (R104);
with a burst left to request it keeps the counts of the bursts done (R117; log 33). -/
def StoreOp.whenEnded (op : StoreOp) : StoreOp :=
  let done := { op with next := op.next + 1 }.settled
  if done.next < done.params.steps then op else done

/-- The request that begins the next step, or none when every step is done. -/
def StoreOp.firstRequest (op : StoreOp) : Option BurstRequest :=
  if op.next < op.params.steps then
    if op.params.readsFirst then
      let (a, len) := op.params.originRun op.next
      some ⟨false, a, len⟩
    else
      let (a, len) := op.params.targetRun op.next
      some ⟨true, a, len⟩
  else none

/-- The write request of a copy step whose read burst has completed (R114). -/
def StoreOp.writeRequest (op : StoreOp) : BurstRequest :=
  let (a, len) := op.params.targetRun op.next
  ⟨true, a, len⟩

/-- The octets a write burst of the next step carries (R109, R111, R114). -/
def StoreOp.burstData (op : StoreOp) (len : Nat) : List Byte :=
  match op.params with
  | .write _ indices => (indices.drop (64 * op.next)).take len
  | .fill _ _ _ index => List.replicate len index
  | .copy _ _ _ _ => op.held.take len
  | .read _ _ => []

/-- A new operation record in CHECKING (R100). -/
def StoreOp.checking (params : StoreParams) : StoreOp :=
  { params := params, running := false, next := 0, held := [], written := 0, clipped := 0,
    data := [], fences := [], ending := false }

/-- The two counts a write command is answered with (R116). -/
def StoreOp.counts (op : StoreOp) : List Byte := toOctets 3 op.written ++ toOctets 3 op.clipped

/-- The parameters of OVL_WRITE, OVL_FILL, OVL_COPY and OVL_READ payloads (R197). -/
def writeParams (p : List Byte) : StoreParams := .write (viewAt p 0) (p.drop 9)
def fillParams (p : List Byte) : StoreParams :=
  .fill (viewAt p 0) (fieldAt p 9 2) (fieldAt p 11 2) (octetAt p 13)
def copyParams (p : List Byte) : StoreParams :=
  .copy (viewAt p 0) (viewAt p 9) (fieldAt p 18 2) (fieldAt p 20 2)
def readParams (p : List Byte) : StoreParams := .read (viewAt p 0) (fieldAt p 9 1)

/-- A store command is executed: its operation enters the record in CHECKING (R100, R172). -/
def runStore (params : StoreParams) (s : State) : State × Result :=
  (s.withOs { s.os with op := some (.checking params) }, .stays .store)

end Sys2Proof.Machine
end

