-- ==== Sys2Proof/Machine/Spans.lean ====
section
/-! DEFINITION. The Span Fetcher (chapter 5). -/

namespace Sys2Proof.Machine

/-! ### Fill list and placing (R82 to R85) -/

/-- The region is in the fill list of active line `t` (R82). -/
def Region.listed (r : Region) (width t : Nat) : Bool :=
  r.enable && decide (r.source = .overlay ∧ r.y0 ≤ t ∧ t ≤ r.y1 ∧ r.x0 < width)

/-- The fill list: layer descending, index ascending (R82, R83). -/
def fillList (bank : CompositionSet) (width t : Nat) : List Nat :=
  (List.range 16).flatMap fun k =>
    (List.range 16).filter fun i =>
      (bank.region i).listed width t && decide ((bank.region i).layer = 15 - k)

/-- Span length (R84). -/
def Region.spanLength (r : Region) (width : Nat) : Nat := min r.x1 (width - 1) - r.x0 + 1

/-- Span start address on active line `t` (R84). -/
def Region.spanStart (r : Region) (t : Nat) : Nat :=
  r.base + (r.srcY + t - r.y0) * r.pitch + r.srcX

/-- The spans of a fill list placed against the remaining budget (R85): the statuses, and the spans
to fetch in list order. -/
def placeSpans (bank : CompositionSet) (width t : Nat) :
    List Nat → Nat → List SpanStatus → List SpanStatus × List SpanJob
  | [], _, status => (status, [])
  | i :: rest, budget, status =>
    let r := bank.region i
    let n := r.spanLength width
    if n ≤ budget then
      let offset := Config.bufferOctets - budget
      let (status', jobs) :=
        placeSpans bank width t rest (budget - n) (status.set i (.placed offset n))
      (status', ⟨i, offset, n, r.spanStart t, 0⟩ :: jobs)
    else placeSpans bank width t rest budget (status.set i .budget)

/-! ### Bursts (R86) -/

/-- The burst the SF requests next (R86). -/
def SpanJob.request (j : SpanJob) : BurstRequest :=
  ⟨false, j.start + j.done, min 64 (j.length - j.done)⟩

/-- The request of the span being fetched, or none. -/
def Fetch.request (f : Fetch) : Option BurstRequest := f.jobs.head?.map SpanJob.request

/-- The SF's waiting request is the one its fetch needs; none withdraws it (R86, R99). -/
def requestSpan (s : State) : State :=
  s.withOs { s.os with sfWaiting := s.sf.fetch.bind Fetch.request }

/-- The fetch of active line `t` starts into the filling buffer (R81 to R86). The buffer's octets are not
read before a span fills them (R80); they read 0 until then (log 31). -/
def startFetch (t : Nat) (s : State) : State :=
  let width := s.out.geometry.width
  let list := fillList s.ct.activeSet width t
  let (status, jobs) :=
    placeSpans s.ct.activeSet width t list Config.bufferOctets (List.replicate 16 .none)
  let filling : LineBuffer := { owner := some t, status := status, octets := [] }
  requestSpan (s.withSf { s.sf with filling := filling, fetch := some ⟨list, jobs⟩ })

/-- A burst of the SF in progress at the store has its octets discarded (R87, R90). -/
def discardSpanBurst (s : State) : State :=
  match s.os.busy with
  | some ⟨.sf, r, _⟩ => s.withOs { s.os with busy := some ⟨.sf, r, true⟩ }
  | _ => s

/-- The fetch in progress ends: its requests are withdrawn and a granted burst's octets discarded
(R87, R90). -/
def stopFetch (s : State) : State :=
  discardSpanBurst (requestSpan (s.withSf { s.sf with fetch := none }))

/-- A burst's octets enter the filling buffer, and a finished span becomes PRESENT (R86). -/
def takeSpanOctets (octets : List Byte) (s : State) : State :=
  match s.sf.fetch with
  | some ⟨list, j :: rest⟩ =>
    let done := j.done + octets.length
    let filled := Memory.writeRun s.sf.filling.octets (j.offset + j.done) octets
    let buffer := { s.sf.filling with octets := filled }
    if j.length ≤ done then
      let buffer := { buffer with status := buffer.status.set j.region (.present j.offset j.length) }
      s.withSf { s.sf with filling := buffer, fetch := some ⟨list, rest⟩ }
    else s.withSf { s.sf with filling := buffer, fetch := some ⟨list, { j with done := done } :: rest⟩ }
  | _ => s

/-- A span fetch burst completes (R86, R99). -/
def completeSpanBurst (g : Grant) (s : State) : State :=
  let octets := Memory.readRun s.os.cells g.request.addr g.request.len
  let t := s.withOs { s.os with busy := none }
  if g.discard then grantStore t else grantStore (requestSpan (takeSpanOctets octets t))

/-! ### Line starts (R87, R89) -/

/-- The buffers change roles; the new filling buffer has no owner line (R80). -/
def swapBuffers (s : State) : State :=
  s.withSf { s.sf with showing := s.sf.filling,
                       filling := { s.sf.showing with owner := none,
                                                      status := List.replicate 16 .none } }

/-- A span placed but not complete is LATE (R87). -/
def SpanStatus.atLineStart : SpanStatus → SpanStatus
  | .placed _ _ => .late
  | x => x

/-- The span is missing: BUDGET or LATE (R71, R91). -/
def SpanStatus.missing : SpanStatus → Bool
  | .budget => true
  | .late => true
  | _ => false

/-- Regions whose span is missing in the showing buffer, ascending (R91). -/
def missingRegions (b : LineBuffer) : List Nat :=
  (List.range 16).filter fun i => (b.statusOf i).missing

/-- The UNDERRUN notifications of line `t`: one for each missing region not yet reported (R92). -/
def underrunNotices (t : Nat) (s : State) : List Notice :=
  ((missingRegions s.sf.showing).filter fun i => !s.sf.reported.getD i false).map fun i =>
    .underrun i t (decide (s.sf.showing.statusOf i = .late))

/-- The underruns of the showing line are counted and the reported flags set (R91, R92). -/
def countUnderruns (s : State) : State :=
  let missing := missingRegions s.sf.showing
  s.withSf { s.sf with
    underruns := s.sf.underruns.mapIdx (fun i n => if missing.contains i then countUp n else n)
    reported := s.sf.reported.mapIdx (fun i b => b || missing.contains i) }

/-- The line start of an output ACTIVE line of index `t` at the SF, before its offers: the state with
the line settled, and the UNDERRUN notifications to offer (R87, R89, R91, R92). -/
def spanLineStart (t : Nat) (s : State) : State × List Notice :=
  let active := s.out.geometry.active
  if active ≤ t then (s, [])
  else if s.sf.filling.owner = some t then
    let status := s.sf.filling.status.map SpanStatus.atLineStart
    let settled := s.withSf { s.sf with filling := { s.sf.filling with status := status } }
    let swapped := swapBuffers (stopFetch settled)
    let counted := countUnderruns swapped
    let next := if t + 1 < active then startFetch (t + 1) counted else counted
    (grantStore next, underrunNotices t swapped)
  else
    let width := s.out.geometry.width
    let status := (List.range 16).map fun i =>
      if (s.ct.activeSet.region i).listed width t then SpanStatus.late else SpanStatus.none
    let owned := s.withSf { s.sf with filling :=
      { s.sf.filling with owner := some t, status := status } }
    let swapped := swapBuffers (stopFetch owned)
    (grantStore (countUnderruns swapped), underrunNotices t swapped)

/-- The SF takes an output frame start (R90, R92). -/
def spanFrameStart (s : State) : State :=
  let t := stopFetch s
  let clear := fun b : LineBuffer =>
    { b with owner := none, status := List.replicate 16 SpanStatus.none }
  t.withSf { t.sf with showing := clear t.sf.showing, filling := clear t.sf.filling,
                       reported := List.replicate 16 false }

end Sys2Proof.Machine
end

