-- ==== Sys2Proof/Machine/Pixels.lean ====
section
/-! DEFINITION. The Compositor (chapter 4): the pixels of an output ACTIVE line, and line cues. -/

namespace Sys2Proof.Machine

/-! ### Coverage and order (R66, R67) -/

/-- The region covers pixel (x, y) under the output geometry (R66). -/
def Region.covers (r : Region) (g : Geometry) (x y : Nat) : Bool :=
  decide (r.x0 ≤ x ∧ x ≤ r.x1 ∧ r.y0 ≤ y ∧ y ≤ r.y1 ∧ x < g.width ∧ y < g.active)

/-- The visit order: layer ascending, index ascending (R67). -/
def visitOrder (bank : CompositionSet) : List Nat :=
  (List.range 16).flatMap fun layer =>
    (List.range 16).filter fun i => decide ((bank.region i).layer = layer)

/-- Region `i` takes part in pixel (x, y) (R67). -/
def takesPart (s : State) (x y i : Nat) : Bool :=
  let r := s.ct.activeSet.region i
  r.enable && r.covers s.out.geometry x y && !s.comp.cueMask.getLsbD i

/-! ### Sources (R68 to R72) -/

/-- Source colour and effective opacity of a region at position `x`, or none where it is skipped by
transparency (R68 to R72). An INPUT region has no source colour; black stands for it, unread. -/
def sourceAt (bank : CompositionSet) (showing : LineBuffer) (i x : Nat) :
    Option (Colour × Nat) :=
  let r := bank.region i
  match r.source with
  | .input => some (.black, r.opacity)
  | .fill => some (r.fill, r.opacity)
  | .overlay =>
    match showing.statusOf i with
    | .present offset _ =>
      let v := Memory.read showing.octets (offset + (x - r.x0))
      let e := bank.entry v.toNat
      if r.key = some v ∨ e.opacity = 0 then none else some (e.colour, e.opacity)
    | .budget | .late => some (r.fill, 16)
    | .none | .placed _ _ => none

/-! ### Operations (R73, R74) -/

/-- The new value of a channel: ground `d`, source `c`, effective opacity `a` (R73). -/
def RegionOp.channel (op : RegionOp) (a d c : Nat) : Nat :=
  match op with
  | .copy => c
  | .blend => (d * (16 - a) + c * a) / 16
  | .max => Nat.max d c
  | .min => Nat.min d c
  | .invert => 1023 - d
  | .dim => d * a / 16

/-- The operation over the channels of the mask; the others keep the ground (R74). -/
def Region.combine (r : Region) (a : Nat) (d c : Colour) : Colour :=
  { c0 := if r.mask.getLsbD 0 then r.op.channel a d.c0 c.c0 else d.c0
    c1 := if r.mask.getLsbD 1 then r.op.channel a d.c1 c.c1 else d.c1
    c2 := if r.mask.getLsbD 2 then r.op.channel a d.c2 c.c2 else d.c2 }

/-- Region `i` acts on the colour `d` at pixel (x, y) (R67 to R74). -/
def visitRegion (s : State) (x y : Nat) (d : Colour) (i : Nat) : Colour :=
  if takesPart s x y i then
    match sourceAt s.ct.activeSet s.sf.showing i x with
    | some (c, a) => (s.ct.activeSet.region i).combine a d c
    | none => d
  else d

/-- The output pixel over a starting colour (R67). -/
def composePixel (s : State) (x y : Nat) (start : Colour) : Colour :=
  (visitOrder s.ct.activeSet).foldl (visitRegion s x y) start

/-- The pixel words of an output ACTIVE line of index `y` over its starting words (R62, R63). -/
def composeLine (s : State) (y : Nat) (starts : List Pixel) : List Pixel :=
  starts.mapIdx fun x p => (composePixel s x y (pixelColour p)).pixel

/-! ### Line cues (R75 to R78) -/

/-- The cue acts at active line `y` (R75). -/
def Cue.actsAt (c : Cue) (y : Nat) : Bool := c.enable && decide (c.line = y)

/-- The effect of a cue on the cue mask (R75). -/
def Cue.onMask (c : Cue) (mask : BitVec 16) : BitVec 16 :=
  match c.action with
  | .notifyCue => mask
  | .hideRegions => mask ||| c.regions
  | .showRegions => mask &&& ~~~c.regions

/-- The cue mask after the cues of active line `y`, in index order (R75). -/
def cueMaskAt (bank : CompositionSet) (y : Nat) (mask : BitVec 16) : BitVec 16 :=
  (List.range 8).foldl
    (fun m i => if (bank.cue i).actsAt y then (bank.cue i).onMask m else m) mask

/-- The CUE notifications of active line `y`, in index order (R78). -/
def cueNotices (bank : CompositionSet) (y : Nat) : List Notice :=
  ((List.range 8).filter fun i =>
    (bank.cue i).actsAt y && decide ((bank.cue i).action = .notifyCue)).map Notice.cue

/-- The cues of active line `y` act on the cue mask (R75). -/
def actCues (y : Nat) (s : State) : State :=
  s.withComp { s.comp with cueMask := cueMaskAt s.ct.activeSet y s.comp.cueMask }

/-- The cue mask is cleared at set-ready (R76). -/
def clearCueMask (s : State) : State := s.withComp { s.comp with cueMask := 0 }

/-- The slate colour in force is taken at an output frame start (R64). -/
def takeSlate (s : State) : State := s.withComp { s.comp with slate := s.rtu.params.slate }

end Sys2Proof.Machine
end

