-- ==== Sys2Proof/Machine/Status.lean ====
section
/-! DEFINITION. Identity, status, counters and the notification mask (chapter 10), and SET_TIMING
(3.5). -/

namespace Sys2Proof.Machine

/-- READ_INFO's 18 data octets (R192, R198). -/
def infoOctets : List Byte :=
  toOctets 1 0x47 ++ toOctets 2 0x0416 ++ toOctets 1 1 ++ toOctets 1 16 ++ toOctets 2 256
    ++ toOctets 1 8 ++ toOctets 1 4 ++ toOctets 3 1048576 ++ toOctets 2 8192 ++ toOctets 1 8
    ++ toOctets 1 8 ++ toOctets 1 16 ++ toOctets 1 8

/-- READ_INFO (R192). -/
def runReadInfo (s : State) : State × Result := (s, .done .ok infoOctets)

/-- The one octet that shows a MGMT line count; a count above 255 has no stated octet (log 14). -/
def countOctet (n : Nat) : Byte := if n < 256 then octet n else Config.freeCountOctet n

/-- READ_STATUS's raster group (R193, R198). -/
def rasterOctets (s : State) : List Byte :=
  let g := s.out.geometry
  [octet s.rtu.lock.code] ++ toOctets 2 g.total ++ toOctets 2 g.active ++ toOctets 2 g.firstActive
    ++ toOctets 2 g.width ++ [countOctet g.mgmt] ++ toOctets 2 s.out.counter.toNat

/-- READ_STATUS's edit group (R193, R198). -/
def editOctets (s : State) : List Byte :=
  [octet (flagCode s.ct.editOpen), octet s.ct.timer, octet (flagCode s.ct.request.isSome)]

/-- READ_STATUS's queue group (R193, R198). -/
def queueOctets (s : State) : List Byte :=
  [octet s.ce.queue.length, octet s.ce.reservations, octet s.ce.sequencedResponses,
    octet s.ce.slot.code, octet s.nq.entries.length, octet s.nq.lost]
    ++ toOctets 2 s.nq.mask.toNat

/-- READ_STATUS's counters (R193, R198). -/
def counterOctets (s : State) : List Byte :=
  toOctets 2 s.mlu.crcErrors ++ toOctets 2 s.mlu.framingErrors ++ toOctets 2 s.mlu.notForwarded
    ++ toOctets 2 s.mlu.misaddressed ++ toOctets 2 s.ce.discarded ++ toOctets 2 s.ce.duplicates
    ++ toOctets 2 s.rtu.lockLosses ++ toOctets 2 s.nq.lostTotal
    ++ (List.range 16).flatMap fun i => toOctets 2 (s.sf.underruns.getD i 0)

/-- READ_STATUS's 71 data octets (R193, R198). -/
def statusOctets (s : State) : List Byte :=
  rasterOctets s ++ editOctets s ++ queueOctets s ++ counterOctets s

/-- READ_STATUS (R193, R194). -/
def runReadStatus (s : State) : State × Result := (s, .done .ok (statusOctets s))

/-- CLEAR_COUNTERS (R191). -/
def runClearCounters (s : State) : State × Result := (clearCounters s, .ok)

/-- SET_NOTIFY_MASK (R188). -/
def runSetNotifyMask (p : List Byte) : State → State × Result :=
  checked [(fieldAt p 0 2 < 512, 0)] fun s =>
    (s.withNq { s.nq with mask := BitVec.ofNat 9 (fieldAt p 0 2) }, .ok)

/-- The checks of SET_TIMING (R59). -/
def timingChecks (p : List Byte) : List (Bool × Nat) :=
  let f := freeRunAt p
  let g := f.geometry
  [ (decide (1 ≤ g.total) && decide (g.total ≤ 4400), 0),
    (decide (16 ≤ g.active) && decide (g.active ≤ 4096), 2),
    (decide (1 ≤ g.firstActive) && decide (g.firstActive ≤ 4400), 4),
    (decide (64 ≤ g.width) && decide (g.width ≤ 4096), 6), (g.mgmt ≤ 4, 8),
    (decide (8000 ≤ f.period) && decide (f.period ≤ 100000), 9),
    (colourLegal (fieldAt p 13 4), 13), (g.mgmt + 1 ≤ g.firstActive, 4),
    (g.firstActive + g.active ≤ g.total, 0) ]

/-- SET_TIMING (R59, R60). -/
def runSetTiming (p : List Byte) : State → State × Result :=
  checked (timingChecks p) fun s => (s.withRtu { s.rtu with params := freeRunAt p }, .ok)

end Sys2Proof.Machine
end

