-- ==== Sys2Proof/Machine/Engine.lean ====
section
/-! DEFINITION. The Command Engine (chapter 9): command codes, execution, responses, the replay cache
and the beginning of commands. Intake and the immediate commands stand in Intake. -/

namespace Sys2Proof.Machine

/-! ### Codes (R197) -/

/-- The sequenced commands, EDIT_CLOSE as one (R170). -/
inductive Command where
  | readInfo | readStatus | clearCounters | setNotifyMask | setTiming | editOpen | editClose
  | commit | setRegion | setPalette | setCue | readRegion | readPalette | readCue | ovlWrite
  | ovlFill | ovlCopy | ovlRead | setFence | readFence | readMeasure | setReport
  deriving DecidableEq, Repr

/-- The sequenced command a code names, or none (R170, R197). -/
def Command.ofCode (code : Byte) : Option Command :=
  match code.toNat with
  | 0x01 => some .readInfo
  | 0x02 => some .readStatus
  | 0x03 => some .clearCounters
  | 0x04 => some .setNotifyMask
  | 0x10 => some .setTiming
  | 0x20 => some .editOpen
  | 0x21 => some .editClose
  | 0x22 => some .commit
  | 0x23 => some .setRegion
  | 0x24 => some .setPalette
  | 0x25 => some .setCue
  | 0x26 => some .readRegion
  | 0x27 => some .readPalette
  | 0x28 => some .readCue
  | 0x30 => some .ovlWrite
  | 0x31 => some .ovlFill
  | 0x32 => some .ovlCopy
  | 0x33 => some .ovlRead
  | 0x34 => some .setFence
  | 0x35 => some .readFence
  | 0x40 => some .readMeasure
  | 0x41 => some .setReport
  | _ => none

/-- COMMIT's code. -/
def commitCode : Byte := 0x22
/-- CANCEL's code. -/
def cancelCode : Byte := 0x70
/-- NODE_RESET's code. -/
def nodeResetCode : Byte := 0x71

/-- The payload lengths a command admits (R170). -/
def Command.admits (c : Command) (n : Nat) : Bool :=
  match c with
  | .readInfo | .readStatus | .clearCounters | .commit => decide (n = 0)
  | .setNotifyMask | .readRegion | .readCue | .setReport => decide (n = 2)
  | .setTiming => decide (n = 17)
  | .editOpen | .editClose | .readFence | .readMeasure => decide (n = 1)
  | .setRegion => decide (n = 34)
  | .setPalette => decide (7 ≤ n ∧ n ≤ 162 ∧ n % 5 = 2)
  | .setCue => decide (n = 7)
  | .readPalette => decide (n = 3)
  | .ovlWrite => decide (10 ≤ n ∧ n ≤ 209)
  | .ovlFill => decide (n = 14)
  | .ovlCopy => decide (n = 22)
  | .ovlRead => decide (n = 10)
  | .setFence => decide (n = 15)

/-- A command executed by its owning block (R170). -/
def Command.run (c : Command) (p : List Byte) (s : State) : State × Result :=
  match c with
  | .readInfo => runReadInfo s
  | .readStatus => runReadStatus s
  | .clearCounters => runClearCounters s
  | .setNotifyMask => runSetNotifyMask p s
  | .setTiming => runSetTiming p s
  | .editOpen => runEditOpen p s
  | .editClose => runEditClose p s
  | .commit => runCommit s
  | .setRegion => runSetRegion p s
  | .setPalette => runSetPalette p s
  | .setCue => runSetCue p s
  | .readRegion => runReadRegion p s
  | .readPalette => runReadPalette p s
  | .readCue => runReadCue p s
  | .ovlWrite => runStore (writeParams p) s
  | .ovlFill => runStore (fillParams p) s
  | .ovlCopy => runStore (copyParams p) s
  | .ovlRead => runStore (readParams p) s
  | .setFence => runSetFence p s
  | .readFence => runReadFence p s
  | .readMeasure => runReadMeasure p s
  | .setReport => runSetReport p s

/-- A sequenced command's code and length checks, then its execution (R170). -/
def runSequenced (code : Byte) (p : List Byte) (s : State) : State × Result :=
  match Command.ofCode code with
  | none => (s, .done .unknownCode [])
  | some c => if c.admits p.length then c.run p s else (s, .done .badLength [])

/-! ### Responses (R171, R174) -/

/-- A formed response joins the response queue (R171). -/
def queueResponse (r : Response) (s : State) : State :=
  s.withCe { s.ce with responses := s.ce.responses ++ [{ r with eligible := s.mlu.assembled }] }

/-- An entry joins the replay cache; a ninth pushes the oldest out (R174). -/
def cacheResponse (e : CacheEntry) (s : State) : State :=
  let all := s.ce.cache ++ [e]
  s.withCe { s.ce with cache := all.drop (all.length - Config.commandPlaces) }

/-- A sequenced command completes: its reservation becomes a response, queued and cached (R171). -/
def answer (q : Queued) (status : Status) (data : List Byte) (s : State) : State :=
  let t := s.withCe { s.ce with reservations := s.ce.reservations - 1 }
  cacheResponse ⟨q.seq, q.code, status, data⟩
    (queueResponse ⟨q.seq, q.code, status, false, data, false, 0⟩ t)

/-- The command in execution ends without a response. -/
def endExecution (s : State) : State := s.withCe { s.ce with exec := none }

/-- The command in execution completes; a broadcast one without a response (R29, R171). -/
def completeCommand (status : Status) (data : List Byte) (s : State) : State :=
  match s.ce.exec with
  | some e =>
    let t := endExecution s
    if e.command.sequenced then answer e.command status data t else t
  | none => s

/-! ### Beginning (R169) -/

/-- A command that has left the queue begins: it completes at once or stays in execution (R169 to
R172). -/
def beginQueued (q : Queued) (s : State) : State :=
  if q.sequenced then
    match runSequenced q.code q.payload s with
    | (t, .done status data) => answer q status data t
    | (t, .stays progress) => t.withCe { t.ce with exec := some ⟨q, progress⟩ }
  else
    match runBroadcastCommit q.payload s with
    | (t, some progress) => t.withCe { t.ce with exec := some ⟨q, progress⟩ }
    | (t, none) => t

/-- The CE can begin a command: none is in execution and the operation record is empty (R169). -/
def canBegin (s : State) : Bool := s.ce.exec.isNone && s.os.op.isNone

/-- The head of the queue begins, if the CE can begin it (R169). -/
def beginNext (s : State) : State :=
  if canBegin s then
    match s.ce.queue with
    | [] => s
    | q :: rest => beginQueued q (s.withCe { s.ce with queue := rest })
  else s

/-- The beginnings of all that waits in `s`, in order of acceptance, each at once when the one before has
completed (R169). -/
def settleActs (s : State) : List (State → State) := List.replicate s.ce.queue.length beginNext

/-- The CE begins what it can at this event (R169). -/
def settleEngine (s : State) : State := runActs (settleActs s) s

/-- Commit-applied reaches the CE: the waiting commit command is answered with the frame number (R34), a
waiting EDIT_OPEN opens its edit (R23). -/
def takeCommitApplied (s : State) : State :=
  match s.ce.exec with
  | some ⟨_, .commit⟩ => completeCommand .ok (toOctets 2 s.out.counter.toNat) s
  | some ⟨q, .resetCommit⟩ => completeCommand .ok [] (openEdit (fieldAt q.payload 0 1) s)
  | _ => s

/-! ### The activation event (R30 to R33) -/

/-- Set-ready at the Compositor, the SF and RMON (R32, R76, R81, R123). -/
def setReady (s : State) : State :=
  grantStore (startFetch 0 (beginMeasurement (clearCueMask s)))

/-- A present commit request is applied and raised as commit-applied, with set-ready before the CE takes it
(R30 to R32, R34). -/
def commitNow (s : State) : State :=
  let list := changedRegions s.ct.activeSet s.ct.pendingSet
  takeCommitApplied (setReady (clearMonitors list (applyCommit s)))

/-- An activation event in `s`: an open edit counts, or a present commit request is applied, and the
commands behind it begin; set-ready in every case (R30 to R34, R169; log 25). Each act queues at most one
notification or one response. -/
def activationActs (s : State) : List (State → State) :=
  if s.ct.editOpen then [fun t => setReady (countEdit t)]
  else if s.ct.request.isSome then commitNow :: settleActs s
  else [setReady]

/-- An activation event with nothing else at its moment. -/
def activationEvent (s : State) : State := runActs (activationActs s) s

end Sys2Proof.Machine
end

