-- ==== Sys2Proof/Machine/StoreRun.lean ====
section
/-! DEFINITION. The course of a store operation: its checks, its bursts and its end (R107 to R119), and
the completion of a CANCEL (R176). -/

namespace Sys2Proof.Machine

/-- The operation record becomes empty (R100). -/
def emptyRecord (s : State) : State := s.withOs { s.os with op := none }

/-- The last burst of an operation has completed: the record empties and the command is answered
(R115, R116). -/
def finishOperation (op : StoreOp) (s : State) : State :=
  let data := if op.params.writes then op.counts else op.data
  settleEngine (completeCommand .ok data (emptyRecord s))

/-- The operation goes on to its next step not clipped whole, or finishes (R104, R116). -/
def advanceOperation (op : StoreOp) (s : State) : State :=
  let op := op.settled
  match op.firstRequest with
  | some r => s.withOs { s.os with op := some op, ceWaiting := some r }
  | none => finishOperation op s

/-- The CHECKING phase ends with a refusal or with entry to RUNNING (R107). -/
def completeChecks (op : StoreOp) (s : State) : State :=
  match op.params.refusal s.os.fences with
  | some (status, data) => settleEngine (completeCommand status data (emptyRecord s))
  | none => grantStore (advanceOperation { op with running := true, fences := s.os.fences } s)

/-! ### CANCEL's completion (R176) -/

/-- The data a CANCELLED response carries: the counts of a write command, else none (R117, R173). -/
def cancelledData : Option StoreOp → List Byte
  | some op => if op.params.writes then op.counts else []
  | none => []

/-- The data of CANCELLED for a command removed from the queue: a write command's two counts, both 0
(R173, R198; log 34). -/
def removedData (q : Queued) : List Byte :=
  match Command.ofCode q.code with
  | some .ovlWrite | some .ovlFill | some .ovlCopy => toOctets 3 0 ++ toOctets 3 0
  | _ => []

/-- CANCEL completes: the command in execution, the removed commands, then the CANCEL itself are
answered in that order (R176). -/
def completeCancel (c : CancelWait) (data : List Byte) (s : State) : State :=
  let ended := match s.ce.exec with
    | some e => if e.command.sequenced then 1 else 0
    | none => 0
  let t := completeCommand .cancelled data s
  let t := c.removed.foldl (fun t q => answer q .cancelled (removedData q) t) t
  let t := queueResponse ⟨c.seq, c.code, .ok, false, [octet (ended + c.removed.length)], true, 0⟩ t
  settleEngine (t.withCe { t.ce with slot := .filled, cancel := none })

/-- An operation that its requester has ended empties the record at the end of its burst: a waiting
CANCEL completes, and after a NODE_RESET the next command may begin (R117, R118, R169). -/
def endOperation (op : StoreOp) (s : State) : State :=
  let t := emptyRecord s
  match t.ce.cancel with
  | some c => completeCancel c (cancelledData (some op)) t
  | none => settleEngine t

/-! ### CE bursts -/

/-- A write burst completes: its octets enter the store but for those it masks, and are counted
(R99, R104, R109); an ended operation goes no further (R117). -/
def completeWrite (op : StoreOp) (r : BurstRequest) (s : State) : State :=
  let clipped := clippedIn op.fences r.addr r.len
  let cells := Memory.writeMasked (clippedBy op.fences) s.os.cells r.addr (op.burstData r.len)
  let op := { op with written := op.written + (r.len - clipped), clipped := op.clipped + clipped,
                      held := [] }
  let t := s.withOs { s.os with cells := cells }
  if op.ending then endOperation op.whenEnded t else advanceOperation { op with next := op.next + 1 } t

/-- A read burst completes: a READ keeps its octets, a COPY holds them for its write burst; an ended
operation discards them (R114, R115, R117). -/
def completeRead (op : StoreOp) (r : BurstRequest) (s : State) : State :=
  let octets := Memory.readRun s.os.cells r.addr r.len
  if op.ending then endOperation op s
  else if op.params.writes then
    let op := { op with held := octets }
    s.withOs { s.os with op := some op, ceWaiting := some op.writeRequest }
  else advanceOperation { op with data := op.data ++ octets, next := op.next + 1 } s

/-- A command-engine burst completes (R99). -/
def completeEngineBurst (g : Grant) (s : State) : State :=
  let t := s.withOs { s.os with busy := none }
  grantStore <|
    match t.os.op with
    | some op => if g.request.write then completeWrite op g.request t else completeRead op g.request t
    | none => t

/-- A store operation is ended early: at once, or marked to end at its granted burst (R117, R118).
Answers the state and whether the operation still stands. -/
def cutOperation (s : State) : State × Bool :=
  match s.os.op, s.os.busy with
  | some op, some ⟨.ce, _, _⟩ => (s.withOs { s.os with op := some { op with ending := true } }, true)
  | some _, _ => (s.withOs { s.os with op := none, ceWaiting := none }, false)
  | none, _ => (s, false)

end Sys2Proof.Machine
end

