-- ==== Sys2Proof/Machine/Intake.lean ====
section
/-! DEFINITION. CE intake (9.3), CANCEL (9.6) and NODE_RESET (9.7). -/

namespace Sys2Proof.Machine

/-! ### Sequenced commands (R162 to R165) -/

/-- The cache entry a sequence finds: the one appended last (R174). -/
def CommandEngine.cached (c : CommandEngine) (seq : Byte) : Option CacheEntry :=
  c.cache.reverse.find? fun e => decide (e.seq = seq)

/-- A sequenced command with this sequence is queued or in execution (R163). -/
def CommandEngine.inFlight (c : CommandEngine) (seq : Byte) : Bool :=
  c.queue.any (fun q => q.sequenced && decide (q.seq = seq)) ||
    match c.exec with
    | some e => e.command.sequenced && decide (e.command.seq = seq)
    | none => false

/-- A new command is accepted when a place and a slot are free, else discarded (R162). -/
def takeNew (q : Queued) (s : State) : State :=
  if s.ce.placeFree && s.ce.slotFree then
    s.withCe { s.ce with queue := s.ce.queue ++ [q], reservations := s.ce.reservations + 1,
                         lastSeq := some q.seq }
  else discardCommand s

/-- A stale command is answered STALE with the last accepted sequence, or discarded (R164). -/
def takeStale (q : Queued) (s : State) : State :=
  if s.ce.slotFree then
    queueResponse ⟨q.seq, q.code, .stale, false, [s.ce.lastSeq.getD 0], false, 0⟩ s
  else discardCommand s

/-- A recent command: replayed, dropped as in flight, or stale (R163). -/
def takeRecent (q : Queued) (s : State) : State :=
  match s.ce.cached q.seq with
  | some e =>
    if s.ce.slotFree then queueResponse ⟨e.seq, e.code, e.status, true, e.data, false, 0⟩ s
    else discardCommand s
  | none =>
    if s.ce.inFlight q.seq then
      s.withCe { s.ce with duplicates := countUp s.ce.duplicates }
    else takeStale q s

/-- Intake of a sequenced command by its sequence (R162). -/
def intakeSequenced (q : Queued) (s : State) : State :=
  match s.ce.lastSeq with
  | none => takeNew q s
  | some a =>
    let d := (q.seq - a).toNat
    if 1 ≤ d ∧ d ≤ 16 then takeNew q s
    else if d = 0 ∨ 241 ≤ d then takeRecent q s
    else takeStale q s

/-- Intake of a broadcast COMMIT (R167). -/
def intakeBroadcastCommit (p : List Byte) (s : State) : State :=
  if s.ce.placeFree then
    s.withCe { s.ce with queue := s.ce.queue ++ [⟨false, 0, commitCode, p⟩] }
  else discardCommand s

/-! ### CANCEL (R175, R176) -/

/-- CANCEL executed: the queue is emptied, the command in execution ended, and the CANCEL completed,
or left waiting for a granted burst (R175, R176). -/
def performCancel (seq code : Byte) (s : State) : State :=
  let c : CancelWait := ⟨seq, code, s.ce.queue.filter Queued.sequenced⟩
  let t := s.withCe { s.ce with queue := [] }
  match t.ce.exec with
  | none => completeCancel c [] t
  | some ⟨_, .store⟩ =>
    let (u, stands) := cutOperation t
    if stands then u.withCe { u.ce with cancel := some c }
    else completeCancel c (cancelledData t.os.op) u
  | some ⟨_, .commit⟩ =>
    let kept := if t.ct.request = some .command then none else t.ct.request
    completeCancel c [] (t.withCt { t.ct with request := kept })
  | some ⟨_, .resetCommit⟩ => completeCancel c [] t

/-! ### NODE_RESET (R178 to R180) -/

/-- The CE after NODE_RESET (R178). -/
def resetCe (s : State) : State :=
  s.withCe { s.ce with
    lastSeq := none, queue := [], exec := none, reservations := 0, slot := .free, responses := [],
    cache := [], discardedSince := 0, discarded := 0, duplicates := 0, cancel := none }

/-- The blocks other than the CE and the CT at a NODE_RESET (R179). -/
def resetBlocks (s : State) : State :=
  let t := (cutOperation s).1
  let t := t.withOs { t.os with fences := Fence.defaults }
  let t := t.withRtu { t.rtu with params := .default, lockLosses := 0 }
  let t := t.withSf { t.sf with underruns := List.replicate 16 0,
                                reported := List.replicate 16 false }
  let t := t.withMon .initial
  let t := t.withMlu { t.mlu with crcErrors := 0, framingErrors := 0, notForwarded := 0,
                                  misaddressed := 0 }
  t.withNq .initial

/-- NODE_RESET executed (R178, R179). -/
def performReset (s : State) : State := resetCt (resetBlocks (resetCe s))

/-! ### Immediate commands (R167, R168) -/

/-- A formed response fills the immediate slot (R168, R180). -/
def fillSlot (seq code : Byte) (status : Status) (s : State) : State :=
  let t := queueResponse ⟨seq, code, status, false, [], true, 0⟩ s
  t.withCe { t.ce with slot := .filled }

/-- Intake of an addressed CANCEL or NODE_RESET: the slot test, the length check, then the command's
effect (R168). -/
def intakeImmediate (effect : State → State) (seq code : Byte) (p : List Byte) (s : State) :
    State :=
  if s.ce.slot = .free then
    let t := s.withCe { s.ce with slot := .reserved }
    if p = [] then effect t else fillSlot seq code .badLength t
  else discardCommand s

/-- Addressed CANCEL (R168, R175). -/
def intakeCancel (seq : Byte) (p : List Byte) (s : State) : State :=
  intakeImmediate (performCancel seq cancelCode) seq cancelCode p s

/-- Addressed NODE_RESET: its response is the first of the emptied queue (R168, R180). -/
def intakeReset (seq : Byte) (p : List Byte) (s : State) : State :=
  intakeImmediate (fun t => fillSlot seq nodeResetCode .ok (performReset t)) seq nodeResetCode p s

/-- Broadcast NODE_RESET: taken whatever the queues hold; one with a payload is discarded (R167). -/
def intakeBroadcastReset (p : List Byte) (s : State) : State :=
  if p = [] then performReset s else discardCommand s

/-! ### Intake of any command (R159), after which the CE begins what it can (R169) -/

/-- A command handed over as addressed (R144, R159). -/
def intakeAddressed (seq code : Byte) (p : List Byte) (s : State) : State :=
  if code = cancelCode then intakeCancel seq p s
  else if code = nodeResetCode then intakeReset seq p s
  else settleEngine (intakeSequenced ⟨true, seq, code, p⟩ s)

/-- A command handed over as broadcast: COMMIT or NODE_RESET (R145, R159). -/
def intakeBroadcast (code : Byte) (p : List Byte) (s : State) : State :=
  if code = nodeResetCode then intakeBroadcastReset p s
  else settleEngine (intakeBroadcastCommit p s)

/-- The enumeration signal (R148). -/
def takeEnumeration (s : State) : State := s.withCe { s.ce with lastSeq := none, cache := [] }

end Sys2Proof.Machine
end

