-- ==== Sys2Proof/Machine/Management.lean ====
section
/-! DEFINITION. The Management Line Unit (chapter 8): parsing, disposition, forwarding and the assembly
of output management lines. -/

namespace Sys2Proof.Machine

/-! ### Disposition (R143 to R150) -/

/-- One more packet dropped (R150, R190). -/
def countNotForwarded (s : State) : State :=
  s.withMlu { s.mlu with notForwarded := countUp s.mlu.notForwarded }

/-- A packet to be forwarded joins the forward list of the line arriving, or is dropped outside
LOCKED (R149, R150). -/
def forwardPacket (p : Packet) (s : State) : State :=
  match s.rtu.lock, s.rtu.cur with
  | .locked, some line =>
    s.withRtu { s.rtu with cur := some { line with forward := line.forward ++ [p] } }
  | _, _ => countNotForwarded s

/-- An ENUM with its hop count raised and its CRC computed anew (R147). -/
def raisedHop (p : Packet) (hop : Nat) : Packet :=
  sealPacket ((packetBody p).set 6 (octet (hop + 1)))

/-- An ENUM with a good CRC (R147, R148). -/
def takeEnum (p : Packet) (s : State) : State :=
  match packetPayload p with
  | [] => forwardPacket p s
  | h :: _ =>
    if h.toNat ≤ 29 then
      let t := s.withMlu { s.mlu with address := h.toNat + 1 }
      forwardPacket (raisedHop p h.toNat) (takeEnumeration t)
    else
      let t := s.withMlu { s.mlu with address := 0 }
      forwardPacket p (takeEnumeration t)

/-- A broadcast COMMAND with a good CRC, besides being forwarded (R145). -/
def takeBroadcast (p : Packet) (s : State) : State :=
  let code := octetAt p 5
  if code = commitCode ∨ code = nodeResetCode then intakeBroadcast code (packetPayload p) s
  else s.withMlu { s.mlu with misaddressed := countUp s.mlu.misaddressed }

/-- A packet taken is dispositioned by the first row that applies (R142, R143). Outside LOCKED a
broadcast NODE_RESET both adds to not_forwarded and clears it; which comes first is left open
(R150, R156, R190; log 27). -/
def takePacket (p : Packet) (s : State) : State :=
  let dest := (octetAt p 1).toNat
  let kind := octetAt p 3
  if !packetCrcGood p then
    forwardPacket p (s.withMlu { s.mlu with crcErrors := countUp s.mlu.crcErrors })
  else if kind = 0x01 ∧ dest = s.mlu.address ∧ 1 ≤ s.mlu.address ∧ s.mlu.address ≤ 30 then
    intakeAddressed (octetAt p 4) (octetAt p 5) (packetPayload p) s
  else if kind = 0x01 ∧ dest = 31 then
    if octetAt p 5 = nodeResetCode ∧ s.rtu.lock ≠ .locked then
      eitherOrder (forwardPacket p) (takeBroadcast p) s
    else takeBroadcast p (forwardPacket p s)
  else if kind = 0x04 then takeEnum p s
  else forwardPacket p s

/-! ### Parsing (R140, R141) -/

/-- The parse of the line is replaced. -/
def setParse (p : Option Parse) (s : State) : State := s.withMlu { s.mlu with parse := p }

/-- One more framing error (R141, R190). -/
def countFraming (s : State) : State :=
  s.withMlu { s.mlu with framingErrors := countUp s.mlu.framingErrors }

/-- A framing error ends the parse of the line (R141). -/
def framingError (p : Parse) (s : State) : State := setParse (some { p with ended := true }) (countFraming s)

/-- One octet of the packet area arrives (R140, R141). -/
def feedOctet (s : State) (o : Byte) : State :=
  match s.mlu.parse with
  | none => s
  | some p =>
    if p.ended then s
    else
      let q : Parse := { p with offset := p.offset + 1, packet := p.packet ++ [o] }
      if p.packet = [] then
        if o = 0x5C then setParse (some q) s
        else if o = 0 then setParse (some { p with offset := p.offset + 1, ended := true }) s
        else framingError { p with offset := p.offset + 1 } s
      else if q.packet.length = 7 ∧ 240 < o.toNat then framingError q s
      else if 7 < q.packet.length ∧ q.packet.length = 9 + (octetAt q.packet 6).toNat then
        takePacket q.packet (setParse (some { q with packet := [] }) s)
      else setParse (some q) s

/-- The parse begins at the line start of an input MGMT line; until the store is cleared none is
taken (R140, R97; log 16). -/
def beginParse (kind : LineKind) (s : State) : State :=
  if kind = .mgmt ∧ !s.os.clearing then setParse (some ⟨0, false, []⟩) s else setParse none s

/-- The line ends in `s`: a packet not yet complete is a framing error, counted (R141). Its parse is
replaced by that of the next line. -/
def endParseActs (s : State) : List (State → State) :=
  match s.mlu.parse with
  | some p => if !p.ended ∧ p.packet ≠ [] then [countFraming] else []
  | none => []

/-! ### Emission (R154, R173, R185) -/

/-- The packet a node writes: destination 0, its address as source (R154, R198, R199). -/
def nodePacket (s : State) (kind seq code : Byte) (payload : List Byte) : Packet :=
  sealPacket ([0, octet s.mlu.address, kind, seq, code, octet payload.length] ++ payload)

/-- The packet of a response at emission (R154, R198). -/
def responsePacket (r : Response) (s : State) : Packet :=
  nodePacket s 0x02 r.seq r.code
    ([octet r.status.code, octet (flagCode r.replay), octet s.ce.discardedSince] ++ r.data)

/-- The packet of a notification at emission (R154, R187, R199). -/
def notificationPacket (n : Notification) (s : State) : Packet :=
  nodePacket s 0x03 s.mlu.sequence (octet (n.notice.position + 1))
    (toOctets 2 n.frame.toNat ++ [octet s.nq.lost] ++ n.notice.data)

/-- The oldest response is emitted: its slot is freed and the discarded count cleared (R154, R165). -/
def emitResponse (r : Response) (s : State) : State :=
  s.withCe { s.ce with responses := s.ce.responses.tail, discardedSince := 0,
                       slot := if r.immediate then .free else s.ce.slot }

/-- The oldest notification is emitted: the lost count is cleared and the notification sequence
advances (R157, R185). -/
def emitNotification (s : State) : State :=
  let t := s.withNq { s.nq with entries := s.nq.entries.tail, lost := 0 }
  t.withMlu { t.mlu with sequence := t.mlu.sequence + 1 }

/-! ### Assembly (R151, R152, R153) -/

/-- The oldest response eligible for line `n` (R153). -/
def eligibleResponse (n : Nat) (s : State) : Option Response :=
  s.ce.responses.head?.filter fun r => decide (r.eligible ≤ n)

/-- The oldest notification eligible for line `n` (R153). -/
def eligibleNotification (n : Nat) (s : State) : Option Notification :=
  s.nq.entries.head?.filter fun e => decide (e.eligible ≤ n)

/-- The packet chosen for insertion (R152). -/
inductive Chosen where
  | response (r : Response)
  | notification (e : Notification)
  deriving DecidableEq, Repr

/-- The choice of R152: the turn decides only when both queues hold an eligible packet. -/
def choosePacket (n : Nat) (responseTurn : Bool) (s : State) : Option Chosen :=
  match eligibleResponse n s, eligibleNotification n s with
  | none, none => none
  | some r, none => some (.response r)
  | none, some e => some (.notification e)
  | some r, some e => some (if responseTurn then .response r else .notification e)

/-- The chosen packet as emitted. -/
def Chosen.packet : Chosen → State → Packet
  | .response r, s => responsePacket r s
  | .notification e, s => notificationPacket e s

/-- The emission of the chosen packet. -/
def Chosen.emit : Chosen → State → State
  | .response r, s => emitResponse r s
  | .notification _, s => emitNotification s

/-- The kind the turn names after a packet was inserted: the other one (R152). -/
def Chosen.responseNext : Chosen → Bool
  | .response _ => false
  | .notification _ => true

/-- The insertion of a line in progress: the line's number, the turn, the octets left and the octets
inserted (R152). -/
structure Assembly where
  line : Nat
  responseTurn : Bool
  room : Nat
  inserted : List Byte
  deriving DecidableEq, Repr

/-- An assembly with `room` octets left by the forwarded packets; its turn starts at RESPONSE (R152). -/
def Assembly.start (room : Nat) : Assembly :=
  { line := 0, responseTurn := true, room := room, inserted := [] }

/-- The assembly begins: what is queued from here on waits for the next line (R153; log 26). -/
def beginAssembly : State × Assembly → State × Assembly
  | (s, a) => (s.withMlu { s.mlu with assembled := s.mlu.assembled + 1 }, { a with line := s.mlu.assembled })

/-- The next packet is inserted, if one is eligible and fits (R152, R154). Insertion that has ended stays
ended: what is queued later is not eligible, and a head that does not fit stays the head. -/
def insertNext : State × Assembly → State × Assembly
  | (s, a) =>
    match choosePacket a.line a.responseTurn s with
    | some c =>
      let p := c.packet s
      if 1 ≤ s.mlu.address ∧ p.length ≤ a.room then
        (c.emit s, { a with responseTurn := c.responseNext, room := a.room - p.length
                            inserted := a.inserted ++ p })
      else (s, a)
    | none => (s, a)

/-- The acts of an assembly that inserts at most `n` packets: its beginning, then one emission each, so that
another block's offer may fall between any two (R153, R185). -/
def assemblyActs (n : Nat) : List (State × Assembly → State × Assembly) :=
  beginAssembly :: List.replicate n insertNext

/-- An output MGMT line of `words` pixel words is assembled at a line start at which `events` happen too: the
forward list, then responses and notifications, then idle octets (R151). Emissions and events come in an
order the manual leaves open (R153, R185; log 10). Answers the state and the output area. -/
def assembleAmong (events : List (State → State)) (words : Nat) (forward : List Packet) (s : State) :
    State × List Byte :=
  let area := 3 * words
  let passed := forward.flatten
  let most := s.ce.responses.length + s.nq.entries.length + events.length
  let (acts, t) := interleaved (events.map fun act => Prod.map act id) (assemblyActs most) s
  let (u, a) := runActs acts (t, Assembly.start (area - passed.length))
  let written := passed ++ a.inserted
  (u, written ++ List.replicate (area - written.length) 0)

/-- An assembly at a line start without events. -/
def assembleLine (words : Nat) (forward : List Packet) (s : State) : State × List Byte :=
  assembleAmong [] words forward s

end Sys2Proof.Machine
end

