-- ==== Sys2Proof/Machine/Raster.lean ====
section
/-! DEFINITION. The Raster Timing Unit (chapter 3): output events, input lines, lock states and internal
timing. -/

namespace Sys2Proof.Machine

/-! ### Output lines (R55 to R57, R62) -/

/-- The words of an output line are put on the port, whole at its line start (R195; log 18). -/
def setTx (words : List Word) (s : State) : State := s.withOut { s.out with tx := words }

/-- The pixel words of the line follow its start word. -/
def sendPixels (kind : LineKind) (frameStart : Bool) (pixels : List Pixel) (s : State) : State :=
  setTx (startWord kind frameStart :: pixels.map pixelWord) s

/-- A frame end is due at a line that is not ACTIVE, or is owed by a frame that ends (R57). -/
def frameEndDue (s : State) : Bool := decide (0 < s.out.activeCount) && !s.out.frameEnded

/-- The frame end raised in `s` where it is due, once a frame (R57), as RMON takes it (R124). -/
def dueFrameEndActs (s : State) : List (State → State) :=
  if frameEndDue s then
    (fun t => t.withOut { t.out with frameEnded := true }) :: frameEndActs s
  else []

/-- The activation event raised in `s`, at most once a frame (R56). -/
def dueActivationActs (s : State) : List (State → State) :=
  if s.out.activated then []
  else (fun t => t.withOut { t.out with activated := true }) :: activationActs s

/-- The frame end and the activation event of a line in `s` that is not ACTIVE (R56, R57), with what other
blocks do at its line start, `others`, in an order the manual leaves open (R184, R190; log 11, 32). -/
def lineEventActs (activation : Bool) (others : List (State → State)) (s : State) :
    List (State → State) × State :=
  interleaved (dueFrameEndActs s ++ if activation then dueActivationActs s else []) others s

/-- The events of a line start without an assembly. -/
def lineEvents (activation : Bool) (others : List (State → State)) (s : State) : State :=
  let (acts, t) := lineEventActs activation others s
  runActs acts t

/-- The start of an output ACTIVE line of index `y`: the SF settles the line, the cues act, RMON takes
an input-timed line, and the Compositor forms it (R62, R75, R87, R122). The offers of the SF and
the Compositor come in an order the manual leaves open (R184; log 9). -/
def activeLine (frameStart : Bool) (starts : List Pixel) (s : State) : State :=
  let y := s.out.activeCount
  let (t, underruns) := spanLineStart y s
  let (offers, t) := interleaved underruns (cueNotices t.ct.activeSet y) t
  let t := accumulateLine y starts (actCues y (offerAll offers t))
  let t := t.withOut { t.out with activeCount := y + 1 }
  sendPixels .active frameStart (composeLine t y starts) t

/-- The start of an output MGMT line: its events and the emissions of its assembly, in an order the manual
leaves open (R151, R153, R185; log 10). -/
def mgmtLine (frameStart : Bool) (words : Nat) (forward : List Packet) (activation : Bool)
    (others : List (State → State)) (s : State) : State :=
  let (acts, t) := lineEventActs activation others s
  let (u, area) := assembleAmong acts words forward t
  sendPixels .mgmt frameStart (areaPixels area) u

/-- The output line start of a line with its kind, starting words and forward list (R55, R62).
`activation`: the next line of the frame is its first ACTIVE line (R56). `others`: what other blocks do at
the same moment; at an ACTIVE line nothing tells the order, since no command begins there. -/
def outputLineStart (kind : LineKind) (frameStart : Bool) (starts : List Pixel)
    (forward : List Packet) (activation : Bool) (others : List (State → State)) (s : State) : State :=
  match kind with
  | .active => activeLine frameStart starts (runActs others s)
  | .mgmt => mgmtLine frameStart starts.length forward activation others s
  | .blank => sendPixels .blank frameStart starts (lineEvents activation others s)

/-- The output frame start: the frame end owed by the frame it replaces comes first (R57); then the
counter, the slate colour, the SF and RMON (R55, R58, R64, R90, R124). -/
def outputFrameStart (inputTimed : Bool) (g : Geometry) (period startedAt : Nat) (s : State) :
    State :=
  let t := if s.out.running then runActs (dueFrameEndActs s) s else s
  let t := t.withOut
    { running := true, inputTimed := inputTimed, geometry := g, period := period,
      startedAt := startedAt, line := 0, activeCount := 0, frameEnded := false, activated := false,
      counter := t.out.counter + 1, tx := t.out.tx }
  discardMeasurement (spanFrameStart (takeSlate t))

/-! ### Internal frames (R54) -/

/-- The kind of line `i` of an internal frame (R54). -/
def internalKind (g : Geometry) (i : Nat) : LineKind :=
  if i = 0 then .blank
  else if g.firstActive ≤ i ∧ i < g.firstActive + g.active then .active
  else if i ≤ g.mgmt then .mgmt
  else .blank

/-- The starting words of a line of an internal frame: slate on ACTIVE lines, black on BLANK ones
(R62, R63). -/
def internalWords (s : State) (i : Nat) : List Pixel :=
  let g := s.out.geometry
  List.replicate g.width
    (match internalKind g i with
      | .active => s.comp.slate.pixel
      | _ => Colour.black.pixel)

/-- Line `i` of the internal frame starts (R54 to R56), and `others` happen at the same moment. -/
def internalLine (i : Nat) (others : List (State → State)) (s : State) : State :=
  let g := s.out.geometry
  let t := s.withOut { s.out with line := i }
  outputLineStart (internalKind g i) (decide (i = 0)) (internalWords s i) []
    (decide (i + 1 = g.firstActive)) others t

/-- The holdover geometry: the locked one, its MGMT lines held below the first ACTIVE line (R54). -/
def holdoverGeometry (g : Geometry) : Geometry := { g with mgmt := min g.mgmt (g.firstActive - 1) }

/-- The free-run layout: geometry and period (R54). -/
def freeRunLayout (r : RasterTiming) : Geometry × Nat := (r.params.geometry, r.params.period)

/-- The holdover layout: geometry and period (R54). -/
def holdoverLayout (r : RasterTiming) : Geometry × Nat :=
  match r.locked, r.measured with
  | some g, some d => (holdoverGeometry g, d)
  | _, _ => freeRunLayout r

/-- The layout of an internal frame by the lock state at its start (R54). In LOCKED, before the switch,
the manual names no layout; the stored parameters are not it (R60). A free bit chooses the holdover
layout or that of the frame in progress (log 15). -/
def internalLayout (s : State) : Geometry × Nat :=
  match s.rtu.lock with
  | .freeRun | .acquiring => freeRunLayout s.rtu
  | .holdover => holdoverLayout s.rtu
  | .locked =>
    if Config.freeBit s.free then holdoverLayout s.rtu else (s.out.geometry, s.out.period)

/-- An internal frame starts at clock time `startedAt`, and its line 0 with it; `others` are the RTU's own
notification, queued after the output frame start (R50), and what else happens at this moment. Against
the activation event that line 0 may raise their order is left open (R184, R190; log 11, 32). -/
def startInternalFrame (startedAt : Nat) (others : List (State → State)) (s : State) : State :=
  let (g, period) := internalLayout s
  let s := if s.rtu.lock = .locked then s.withFree (s.free + 1) else s
  internalLine 0 others (outputFrameStart false g period startedAt s)

/-! ### Lock states (R42 to R50) -/

/-- A change of lock state: RMON's frame is spoilt (R123), timers of the state left are stopped (R42),
and after an entry to FREE_RUN or HOLDOVER no input frame is measured until the next begins (R39). -/
def changeLock (new : LockState) (s : State) : State :=
  let keep := decide (new = .acquiring ∨ new = .locked)
  spoilMeasurement (s.withRtu { s.rtu with
    lock := new
    flywheel := none
    acquire := none
    watching := false
    frame := if keep then s.rtu.frame else none })

/-- The LOCK notification of a change (R50). -/
def offerLock (previous new : LockState) (cause : LockCause) (s : State) : State :=
  offer (.lock previous new cause) s

/-- The acquire timer is started 100 ms ahead (R43). -/
def startAcquire (s : State) : State :=
  s.withRtu { s.rtu with acquire := some (s.now + Config.acquireNanos) }

/-- The flywheel is started: the measured duration D plus D div 8 (R47). -/
def startFlywheel (d : Nat) (s : State) : State :=
  s.withRtu { s.rtu with measured := some d, flywheel := some (s.now + (d + d / 8) * 1000) }

/-- The packets of a line's forward list are dropped, each counted (R150). -/
def dropActs (line : Option InputLine) : List (State → State) :=
  match line with
  | some l => List.replicate l.forward.length countNotForwarded
  | none => []

/-- A line without its forward list. -/
def InputLine.stripped (l : InputLine) : InputLine := { l with forward := [] }

/-- One more departure from LOCKED (R46, R47, R190). -/
def countLockLoss (s : State) : State :=
  s.withRtu { s.rtu with lockLosses := countUp s.rtu.lockLosses }

/-- LOCKED is left: lines not yet emitted lose their forward lists (R53, R150), lock_losses counts
(R190), and an internal frame starts before the LOCK notification is queued (R50, R53). `errors` is what
the parse of the line just ended counts. The MLU's counts, the RTU's acts and the activation event that
the frame's line 0 may raise come in an order the manual leaves open (R184, R190; log 11, 32). -/
def departLocked (new : LockState) (cause : LockCause) (errors : List (State → State)) (s : State) :
    State :=
  let t := changeLock new s
  let t := t.withRtu { t.rtu with
    cur := t.rtu.cur.map InputLine.stripped, prev := t.rtu.prev.map InputLine.stripped,
    awaitSwitch := false }
  let (others, u) := interleaved (errors ++ dropActs s.rtu.prev ++ dropActs s.rtu.cur)
    [countLockLoss, offerLock .locked new cause] t
  startInternalFrame u.now others u

/-! ### Input frames (R39 to R41) -/

/-- An ended line is measured into the frame in progress, up to 4401 lines (R39, R40; log 23). -/
def InputFrame.close (f : InputFrame) (l : InputLine) : InputFrame :=
  if Config.frameLines ≤ f.lines then f
  else
    let active := decide (l.kind = .active)
    let first := active && decide (f.active = 0)
    { f with
      lines := f.lines + 1
      active := if active then f.active + 1 else f.active
      firstActive := if first then f.lines else f.firstActive
      width := if first then l.words.length else f.width
      mgmt := if l.kind = .mgmt then f.mgmt + 1 else f.mgmt
      contiguous := f.contiguous && (!active || first || decide (f.firstActive + f.active = f.lines))
      uniform := f.uniform && (!active || first || decide (l.words.length = f.width))
      clean := f.clean && !l.overLong && !l.unclean }

/-- A frame that begins now (R39). -/
def InputFrame.start (now : Nat) : InputFrame :=
  { startedAt := now, lines := 0, active := 0, firstActive := 0, width := 0, mgmt := 0,
    contiguous := true, uniform := true, clean := true }

/-- The geometry record of an ended frame (R40). -/
def InputFrame.record (f : InputFrame) : Geometry :=
  { total := f.lines, active := f.active, firstActive := f.firstActive, width := f.width,
    mgmt := f.mgmt }

/-- The frame is regular (R41). -/
def InputFrame.regular (f : InputFrame) : Bool :=
  f.contiguous && f.uniform && f.clean &&
    decide (64 ≤ f.width ∧ f.width ≤ 4096 ∧ 16 ≤ f.active ∧ f.active ≤ 4096 ∧ f.lines ≤ 4400 ∧
      1 ≤ f.firstActive)

/-- The frame matches a geometry, or an absent one never (R41). -/
def InputFrame.matchesGeometry (f : InputFrame) (g : Option Geometry) : Bool :=
  f.regular && decide (g = some f.record)

/-- The frame's duration in whole microseconds (R39); outside the range of R42 it is free within it
(log 13). -/
def InputFrame.duration (f : InputFrame) (now : Nat) : Nat :=
  let d := (now - f.startedAt) / 1000
  if 1 ≤ d ∧ d ≤ 4294967295 then d
  else (Config.freeDuration d).toNat % 4294967295 + 1

/-- LOCKED is entered (R44, R49, R52). -/
def enterLocked (f : InputFrame) (s : State) : State :=
  let previous := s.rtu.lock
  let t := changeLock .locked s
  let t := t.withRtu { t.rtu with locked := some f.record, awaitSwitch := true }
  offerLock previous .locked .matched (startFlywheel (f.duration s.now) t)

/-- ACQUIRING is entered, or stayed in, with a new candidate (R43, R44, R49). -/
def becomeCandidate (f : Option InputFrame) (s : State) : State :=
  startAcquire (s.withRtu { s.rtu with candidate := f.map InputFrame.record })

/-- The input frame start that ends `ended` leaves LOCKED (R46). -/
def leavesLocked (ended : Option InputFrame) (s : State) : Bool :=
  decide (s.rtu.lock = .locked) && !ended.any fun f => f.matchesGeometry s.rtu.locked

/-- The lock-state rules of an input frame start; `ended` is the frame it ends (R43 to R49). In ACQUIRING
a candidate that only its facts make irregular is matched by a regular frame with the same five fields:
DESIGN CHOICE (log 35), the bullet of R44 with R41 against R44's sentence that both frames are regular.
A departure from LOCKED takes `errors` with it. -/
def takeFrameStart (ended : Option InputFrame) (errors : List (State → State)) (s : State) : State :=
  match s.rtu.lock with
  | .freeRun =>
    offerLock .freeRun .acquiring .inputFrame (becomeCandidate none (changeLock .acquiring s))
  | .acquiring =>
    match ended with
    | some f =>
      if f.matchesGeometry s.rtu.candidate then enterLocked f s else becomeCandidate (some f) s
    | none => becomeCandidate none s
  | .locked =>
    match ended with
    | some f =>
      if f.matchesGeometry s.rtu.locked then startFlywheel (f.duration s.now) s
      else becomeCandidate (some f) (departLocked .acquiring .mismatch errors s)
    | none => becomeCandidate none (departLocked .acquiring .mismatch errors s)
  | .holdover =>
    if s.rtu.watching then
      match ended with
      | some f =>
        if f.matchesGeometry s.rtu.locked then enterLocked f s
        else
          offerLock .holdover .acquiring .mismatch
            (becomeCandidate (some f) (changeLock .acquiring s))
      | none => s
    else s.withRtu { s.rtu with watching := true }

/-! ### Input lines (R38, R51, R52) -/

/-- The input line that a start word begins (R38, R195). -/
def lineOf (bits : BitVec 31) : InputLine :=
  let kind := LineKind.ofCode (bits.toNat % 4)
  { kind := kind.getD .blank, frameStart := bits.getLsbD 4, words := [], overLong := false,
    unclean := kind.isNone, forward := [] }

/-- The line in progress ends and is measured (R39, R40). -/
def endLine (s : State) : State :=
  match s.rtu.cur with
  | some l => s.withRtu { s.rtu with frame := s.rtu.frame.map fun f => f.close l }
  | none => s

/-- The output line that carries input line `a` starts, with `b` the input line after it (R51, R56);
`first`: it is line 0 of its output frame; `errors`: what the parse of the line just ended counts. -/
def carryLine (first : Bool) (a : InputLine) (b : Option InputLine) (errors : List (State → State))
    (s : State) : State :=
  let t :=
    if first then
      outputFrameStart true (s.rtu.locked.getD s.out.geometry) (s.rtu.measured.getD s.out.period)
        s.now s
    else s.withOut { s.out with line := s.out.line + 1 }
  let nextActive := match b with
    | some l => decide (l.kind = .active) && !l.frameStart
    | none => false
  outputLineStart a.kind first a.words a.forward
    (nextActive && decide (t.out.activeCount = 0)) errors t

/-- In LOCKED the start of an input line begins the output line two back (R51); the first locked
output frame starts with input line 2 of the frame that completed the match (R52). `a` and `b` are
the two lines before the one that starts, and `index` its own index. -/
def followInput (a b : Option InputLine) (index : Nat) (errors : List (State → State)) (s : State) :
    State :=
  match s.rtu.lock, a with
  | .locked, some a =>
    if s.out.inputTimed then carryLine a.frameStart a b errors s
    else if s.rtu.awaitSwitch ∧ index = 2 then
      carryLine true a b errors (s.withRtu { s.rtu with awaitSwitch := false })
    else runActs errors s
  | _, _ => runActs errors s

/-- A line start word is taken (R38). A framing error of the line it ends is counted at this moment, in an
order against the output line's events that the manual leaves open (R156, R190; log 32). -/
def takeLineStart (bits : BitVec 31) (clock : Nat) (s : State) : State :=
  let line := lineOf bits
  let ended := endParseActs s
  let t := endLine (s.advanceTo clock)
  let errors := if line.frameStart && leavesLocked t.rtu.frame t then [] else ended
  let t :=
    if line.frameStart then
      let u := takeFrameStart t.rtu.frame ended t
      u.withRtu { u.rtu with frame := some (.start u.now) }
    else t
  let index := match t.rtu.frame with
    | some f => f.lines
    | none => 0
  let t := followInput t.rtu.prev t.rtu.cur index errors t
  beginParse line.kind (t.withRtu { t.rtu with prev := t.rtu.cur, cur := some line })

/-- A pixel word is taken: kept and, on a MGMT line, parsed; or discarded (R38, R138, R195). -/
def takePixelWord (bits : BitVec 31) (s : State) : State :=
  match s.rtu.cur with
  | none => s
  | some l =>
    if l.words.length < Config.lineWords then
      let p : Pixel := bits.setWidth 30
      let t := s.withRtu { s.rtu with cur := some { l with words := l.words ++ [p] } }
      if l.kind = .mgmt then (areaOctets p).foldl feedOctet t else t
    else s.withRtu { s.rtu with cur := some { l with overLong := true } }

/-! ### Timed events (R45, R47, R48, R54) -/

/-- The acquire timer expires in ACQUIRING (R45). -/
def expireAcquire (due : Nat) (s : State) : State :=
  let t := s.advanceTo due
  let t := t.withRtu { t.rtu with candidate := none }
  offerLock .acquiring .freeRun .acquireTimeout (changeLock .freeRun t)

/-- The flywheel expires in LOCKED (R47, R53). -/
def expireFlywheel (due : Nat) (s : State) : State :=
  let t := s.advanceTo due
  if t.rtu.params.holdoverLimit = 0 then departLocked .freeRun .flywheel [] t
  else departLocked .holdover .flywheel [] (t.withRtu { t.rtu with holdoverCount := 0 })

/-- The next internal frame starts, one period after the last (R54). In HOLDOVER the count goes up
first, and at the limit the state becomes FREE_RUN (R48). -/
def nextInternalFrame (s : State) : State :=
  let begins := if s.out.running then s.out.startedAt + s.out.period * 1000 else s.now
  let t := s.advanceTo begins
  if t.rtu.lock = .holdover then
    let n := stopAt 255 t.rtu.holdoverCount
    let t := t.withRtu { t.rtu with holdoverCount := n }
    if t.rtu.params.holdoverLimit ≤ n then
      startInternalFrame begins [offerLock .holdover .freeRun .holdoverLimit] (changeLock .freeRun t)
    else startInternalFrame begins [] t
  else startInternalFrame begins [] t

/-- The internal frame has reached its last line, or none is in progress: the next internal line start
is a frame start (R54). -/
def atFrameBoundary (s : State) : Bool :=
  !s.out.running || decide (s.out.geometry.total ≤ s.out.line + 1)

/-- The pacing of internal frames reaches its next line start (R54). -/
def paceInternal (s : State) : State :=
  if s.out.running && s.out.inputTimed then s
  else if atFrameBoundary s then nextInternalFrame s
  else
    let i := s.out.line + 1
    internalLine i []
      (s.advanceTo (s.out.startedAt + i * s.out.period / s.out.geometry.total * 1000))

end Sys2Proof.Machine
end

