-- ==== Sys2Proof/Machine/Resets.lean ====
section
/-! DEFINITION. Power-on, pin reset and its release, and the end of the store's clearing (R61, R97,
R119, R200). -/

namespace Sys2Proof.Machine

/-- The first internal frame starts at the end of a reset (R61). -/
def startFirstFrame (s : State) : State := startInternalFrame s.now [] s

/-- Every item at its power-on value; the waiting commands and the free values go on (R200). -/
def powerOnValues (s : State) : State :=
  { State.reset with pending := s.pending, free := s.free }

/-- A write burst cut by RESET: each of its octets, less those it masks, holds its old or its new
value, each on its own, as free bits say (R97, R119; log 12). -/
def tornCells (op : StoreOp) (r : BurstRequest) (free : Nat) (cells : Memory) : Memory :=
  let data := op.burstData r.len
  (List.range data.length).foldl
    (fun m k =>
      if clippedBy op.fences (r.addr + k) then m
      else if Config.freeBit (free + k) then Memory.write m (r.addr + k) (data.getD k 0)
      else m)
    cells

/-- The store's octets after a pin reset (R97, R119). -/
def cellsAfterPinReset (s : State) : Memory :=
  match s.os.op, s.os.busy with
  | some op, some ⟨.ce, r, _⟩ =>
    if r.write && r.inStore then tornCells op r s.free s.os.cells else s.os.cells
  | _, _ => s.os.cells

/-- RESET is driven low: every item at its pin reset value, the store's octets kept but for a burst cut
short; the output carries no line (R61, R97, R119, R200). The clock and the clearing go on (log 21). -/
def pinResetValues (s : State) : State :=
  { State.reset with
    pending := s.pending
    resetLow := true
    now := s.now
    free := s.free + Config.burstOctets
    os := { OverlayStore.initial with cells := cellsAfterPinReset s, clearing := s.os.clearing } }

end Sys2Proof.Machine
end

