-- ==== Sys2Proof/Machine/Commands.lean ====
section
/-! DEFINITION. The meaning of each row of the table, one definition per row. An event that cannot occur
in a state leaves the state unchanged (log 3). -/

namespace Sys2Proof.Machine

/-- What a command answers. -/
abbrev Answer := Host.Outcome State Fault Refusal

/-- While RESET is low nothing is taken (R61, R200). -/
def whileRunning (effect : State → State) (s : State) : Answer :=
  if s.resetLow then .next s else .next (effect s)

/-- An addressed command is handed to CE intake, once the store's clearing has finished and the node has
an address (R97, R144, R181; log 1). -/
def handOver (seq code : Byte) (p : List Byte) (s : State) : Answer :=
  if s.addressable then .next (intakeAddressed seq code p s) else .next s

/-! ### Power and pins -/

/-- POWER_ON (R200). -/
def execPowerOn (s : State) : Answer := .next (startFirstFrame (powerOnValues s))

/-- PIN_RESET (R200). -/
def execPinReset (s : State) : Answer := .next (pinResetValues s)

/-- RESET_RELEASE (R61, R200). -/
def execResetRelease (s : State) : Answer :=
  if s.resetLow then .next (startFirstFrame (s.withResetLow false)) else .next s

/-- STORE_CLEARING_DONE (R97). -/
def execStoreClearingDone (s : State) : Answer := .next (s.withOs { s.os with clearing := false })

/-! ### Raster input -/

/-- INPUT_LINE_START (R38). -/
def execInputLineStart (bits : BitVec 31) (clock : Nat) (s : State) : Answer :=
  whileRunning (takeLineStart bits clock) s

/-- INPUT_PIXEL_WORD (R38). -/
def execInputPixelWord (bits : BitVec 31) (s : State) : Answer :=
  whileRunning (takePixelWord bits) s

/-! ### Timed events -/

/-- ACQUIRE_TIMER_EXPIRY (R45). -/
def execAcquireTimerExpiry (s : State) : Answer :=
  match s.rtu.lock, s.rtu.acquire with
  | .acquiring, some due => whileRunning (expireAcquire due) s
  | _, _ => .next s

/-- FLYWHEEL_EXPIRY (R47). -/
def execFlywheelExpiry (s : State) : Answer :=
  match s.rtu.lock, s.rtu.flywheel with
  | .locked, some due => whileRunning (expireFlywheel due) s
  | _, _ => .next s

/-- INTERNAL_LINE_START (R54). -/
def execInternalLineStart (s : State) : Answer := whileRunning paceInternal s

/-- The next internal frame start reaches the holdover limit (R48). -/
def atHoldoverLimit (s : State) : Bool :=
  decide (s.rtu.lock = .holdover) && !(s.out.running && s.out.inputTimed) && atFrameBoundary s
    && decide (s.rtu.params.holdoverLimit ≤ stopAt 255 s.rtu.holdoverCount)

/-- HOLDOVER_LIMIT: the internal frame start that reaches the limit (R48; log 6). -/
def execHoldoverLimit (s : State) : Answer :=
  if atHoldoverLimit s then whileRunning nextInternalFrame s else .next s

/-! ### Occurrences inside other steps -/

/-- EDIT_EXPIRY: the CT's act at the activation event that brings the timer to 0 (R33; log 6). -/
def execEditExpiry (s : State) : Answer :=
  if s.ct.editOpen ∧ s.ct.timer ≤ 1 then whileRunning expireEdit s else .next s

/-- REPORT_COUNTDOWN: the last count of a region's countdown, at a latch that has formed its record
(R134; log 6). -/
def execReportCountdown (region : Fin 16) (s : State) : Answer :=
  match (s.mon.monitor region).record with
  | some m =>
    if (s.mon.monitor region).countdown ≤ 1 then whileRunning (latchReport region m) s else .next s
  | none => .next s

/-! ### Store events -/

/-- SF_BURST_COMPLETE (R86). -/
def execSfBurstComplete (s : State) : Answer :=
  match s.os.busy with
  | some ⟨.sf, r, discard⟩ =>
    if r.inStore then .next (completeSpanBurst ⟨.sf, r, discard⟩ s)
    else .fault (.storeAddress (r.addr + r.len))
  | _ => .next s

/-- CE_BURST_COMPLETE (R99). -/
def execCeBurstComplete (s : State) : Answer :=
  match s.os.busy with
  | some ⟨.ce, r, discard⟩ =>
    if r.inStore then .next (completeEngineBurst ⟨.ce, r, discard⟩ s)
    else .fault (.storeAddress (r.addr + r.len))
  | _ => .next s

/-- STORE_CHECKS_COMPLETE (R107). -/
def execStoreChecksComplete (s : State) : Answer :=
  match s.os.op with
  | some op => if op.running then .next s else .next (completeChecks op s)
  | none => .next s

/-! ### Engine -/

/-- COMMAND_BEGIN (R169; log 2). -/
def execCommandBegin (s : State) : Answer := whileRunning settleEngine s

/-- UNKNOWN_CODE (R170). -/
def execUnknownCode (seq code : Byte) (p : List Byte) (s : State) : Answer := handOver seq code p s

/-- READ_INFO (R192). -/
def execReadInfo (seq : Byte) (p : List Byte) (s : State) : Answer := handOver seq 0x01 p s

/-- READ_STATUS (R193). -/
def execReadStatus (seq : Byte) (p : List Byte) (s : State) : Answer := handOver seq 0x02 p s

/-- CLEAR_COUNTERS (R191). -/
def execClearCounters (seq : Byte) (p : List Byte) (s : State) : Answer := handOver seq 0x03 p s

/-- SET_NOTIFY_MASK (R188). -/
def execSetNotifyMask (seq : Byte) (p : List Byte) (s : State) : Answer := handOver seq 0x04 p s

/-- SET_TIMING (R59). -/
def execSetTiming (seq : Byte) (p : List Byte) (s : State) : Answer := handOver seq 0x10 p s

/-- EDIT_OPEN (R22, R23). -/
def execEditOpen (seq : Byte) (p : List Byte) (s : State) : Answer := handOver seq 0x20 p s

/-- EDIT_CLOSE(DISCARD) (R25). -/
def execEditCloseDiscard (seq : Byte) (s : State) : Answer := handOver seq 0x21 [0x00] s

/-- EDIT_CLOSE(KEEP) (R26). -/
def execEditCloseKeep (seq : Byte) (s : State) : Answer := handOver seq 0x21 [0x01] s

/-- EDIT_CLOSE(COMMIT) (R27). -/
def execEditCloseCommit (seq : Byte) (s : State) : Answer := handOver seq 0x21 [0x02] s

/-- A sequenced COMMIT (R28). -/
def execSequencedCommit (seq : Byte) (p : List Byte) (s : State) : Answer := handOver seq 0x22 p s

/-- A broadcast COMMIT (R29, R167). -/
def execBroadcastCommit (p : List Byte) (s : State) : Answer :=
  if s.reachable then .next (intakeBroadcast commitCode p s) else .next s

/-- SET_REGION (R12). -/
def execSetRegion (seq : Byte) (p : List Byte) (s : State) : Answer := handOver seq 0x23 p s

/-- SET_PALETTE (R13). -/
def execSetPalette (seq : Byte) (p : List Byte) (s : State) : Answer := handOver seq 0x24 p s

/-- SET_CUE (R14). -/
def execSetCue (seq : Byte) (p : List Byte) (s : State) : Answer := handOver seq 0x25 p s

/-- READ_REGION (R16). -/
def execReadRegion (seq : Byte) (p : List Byte) (s : State) : Answer := handOver seq 0x26 p s

/-- READ_PALETTE (R17). -/
def execReadPalette (seq : Byte) (p : List Byte) (s : State) : Answer := handOver seq 0x27 p s

/-- READ_CUE (R18). -/
def execReadCue (seq : Byte) (p : List Byte) (s : State) : Answer := handOver seq 0x28 p s

/-- OVL_WRITE (R108). -/
def execOvlWrite (seq : Byte) (p : List Byte) (s : State) : Answer := handOver seq 0x30 p s

/-- OVL_FILL (R110). -/
def execOvlFill (seq : Byte) (p : List Byte) (s : State) : Answer := handOver seq 0x31 p s

/-- OVL_COPY (R112). -/
def execOvlCopy (seq : Byte) (p : List Byte) (s : State) : Answer := handOver seq 0x32 p s

/-- OVL_READ (R115). -/
def execOvlRead (seq : Byte) (p : List Byte) (s : State) : Answer := handOver seq 0x33 p s

/-- SET_FENCE (R105). -/
def execSetFence (seq : Byte) (p : List Byte) (s : State) : Answer := handOver seq 0x34 p s

/-- READ_FENCE (R106). -/
def execReadFence (seq : Byte) (p : List Byte) (s : State) : Answer := handOver seq 0x35 p s

/-- READ_MEASURE (R135). -/
def execReadMeasure (seq : Byte) (p : List Byte) (s : State) : Answer := handOver seq 0x40 p s

/-- SET_REPORT (R133). -/
def execSetReport (seq : Byte) (p : List Byte) (s : State) : Answer := handOver seq 0x41 p s

/-- CANCEL (R168, R176). -/
def execCancel (seq : Byte) (p : List Byte) (s : State) : Answer := handOver seq cancelCode p s

/-- NODE_RESET, addressed or broadcast (R167, R168, R178). -/
def execNodeReset (broadcast : Bool) (seq : Byte) (p : List Byte) (s : State) : Answer :=
  if broadcast then
    if s.reachable then .next (intakeBroadcast nodeResetCode p s) else .next s
  else handOver seq nodeResetCode p s

end Sys2Proof.Machine
end

