-- ==== Sys2Proof/Machine/Dispatch.lean ====
section
/-! DEFINITION. One arm per constructor of Instr. -/

namespace Sys2Proof.Machine

def exec (i : Instr) (s : State) : Host.Outcome State Fault Refusal :=
  match i with
  | .powerOn => Sys2Proof.Machine.execPowerOn s
  | .pinReset => Sys2Proof.Machine.execPinReset s
  | .resetRelease => Sys2Proof.Machine.execResetRelease s
  | .inputLineStart bits clock => Sys2Proof.Machine.execInputLineStart bits clock s
  | .inputPixelWord bits => Sys2Proof.Machine.execInputPixelWord bits s
  | .acquireTimerExpiry => Sys2Proof.Machine.execAcquireTimerExpiry s
  | .flywheelExpiry => Sys2Proof.Machine.execFlywheelExpiry s
  | .internalLineStart => Sys2Proof.Machine.execInternalLineStart s
  | .holdoverLimit => Sys2Proof.Machine.execHoldoverLimit s
  | .editExpiry => Sys2Proof.Machine.execEditExpiry s
  | .sfBurstComplete => Sys2Proof.Machine.execSfBurstComplete s
  | .ceBurstComplete => Sys2Proof.Machine.execCeBurstComplete s
  | .storeChecksComplete => Sys2Proof.Machine.execStoreChecksComplete s
  | .reportCountdown region => Sys2Proof.Machine.execReportCountdown region s
  | .commandBegin => Sys2Proof.Machine.execCommandBegin s
  | .unknownCode seq code payload => Sys2Proof.Machine.execUnknownCode seq code payload s
  | .readInfo seq payload => Sys2Proof.Machine.execReadInfo seq payload s
  | .readStatus seq payload => Sys2Proof.Machine.execReadStatus seq payload s
  | .clearCounters seq payload => Sys2Proof.Machine.execClearCounters seq payload s
  | .setNotifyMask seq payload => Sys2Proof.Machine.execSetNotifyMask seq payload s
  | .setTiming seq payload => Sys2Proof.Machine.execSetTiming seq payload s
  | .editOpen seq payload => Sys2Proof.Machine.execEditOpen seq payload s
  | .editCloseDiscard seq => Sys2Proof.Machine.execEditCloseDiscard seq s
  | .editCloseKeep seq => Sys2Proof.Machine.execEditCloseKeep seq s
  | .editCloseCommit seq => Sys2Proof.Machine.execEditCloseCommit seq s
  | .sequencedCommit seq payload => Sys2Proof.Machine.execSequencedCommit seq payload s
  | .broadcastCommit payload => Sys2Proof.Machine.execBroadcastCommit payload s
  | .setRegion seq payload => Sys2Proof.Machine.execSetRegion seq payload s
  | .setPalette seq payload => Sys2Proof.Machine.execSetPalette seq payload s
  | .setCue seq payload => Sys2Proof.Machine.execSetCue seq payload s
  | .readRegion seq payload => Sys2Proof.Machine.execReadRegion seq payload s
  | .readPalette seq payload => Sys2Proof.Machine.execReadPalette seq payload s
  | .readCue seq payload => Sys2Proof.Machine.execReadCue seq payload s
  | .ovlWrite seq payload => Sys2Proof.Machine.execOvlWrite seq payload s
  | .ovlFill seq payload => Sys2Proof.Machine.execOvlFill seq payload s
  | .ovlCopy seq payload => Sys2Proof.Machine.execOvlCopy seq payload s
  | .ovlRead seq payload => Sys2Proof.Machine.execOvlRead seq payload s
  | .setFence seq payload => Sys2Proof.Machine.execSetFence seq payload s
  | .readFence seq payload => Sys2Proof.Machine.execReadFence seq payload s
  | .readMeasure seq payload => Sys2Proof.Machine.execReadMeasure seq payload s
  | .setReport seq payload => Sys2Proof.Machine.execSetReport seq payload s
  | .cancel seq payload => Sys2Proof.Machine.execCancel seq payload s
  | .nodeReset broadcast seq payload => Sys2Proof.Machine.execNodeReset broadcast seq payload s
  | .storeClearingDone => Sys2Proof.Machine.execStoreClearingDone s

end Sys2Proof.Machine
end

