-- ==== Sys2Proof/Machine/Step.lean ====
section
/-! DEFINITION. The step of the block: it takes the command at the front of its queue. -/

namespace Sys2Proof.Machine

/-- The command at the front of the queue runs with the queue's rest; an empty queue idles (log 8). -/
def step (s : State) : Host.Outcome State Fault Refusal :=
  match s.pending with
  | [] => .next s
  | c :: rest => exec c { s with pending := rest }

/-- A word that arrives on the raster input port joins the queue as the command it is (R195). -/
def State.receive (s : State) (w : Word) (clock : Nat) : State :=
  { s with pending := s.pending ++ [inputWordCommand w clock] }

/-- The command a table word spells is put at the front of the queue; where it spells none the state
is unchanged. -/
def State.withFetchWord (s : State) (nbits w : Nat) : State :=
  match decodeTableWord nbits w with
  | some c => { s with pending := c :: s.pending }
  | none => s

end Sys2Proof.Machine
end

