-- ==== Sys2Proof/Safety.lean ====
section
/-! DEFINITION. What counts as a legal record and a coherent state, and the vocabulary in which the
statements say what a command leaves. -/

namespace Sys2Proof.Machine

/-! ### Legal records (R2, R5 to R8, R59, R101) -/

/-- Channel values 0..1023 (conventions). -/
abbrev Colour.Legal (c : Colour) : Prop := c.c0 ≤ 1023 ∧ c.c1 ≤ 1023 ∧ c.c2 ≤ 1023

/-- A present threshold has low ≤ high ≤ 1023 (R2). -/
abbrev thresholdLegal (t : Option (Nat × Nat)) : Prop := ∀ p ∈ t, p.1 ≤ p.2 ∧ p.2 ≤ 1023

/-- INVERT and DIM go with source INPUT, the other operations with FILL and OVERLAY (R6). -/
abbrev opMatches (op : RegionOp) (source : Source) : Prop :=
  (op = .invert ∨ op = .dim) ↔ source = .input

/-- A region record that R5 and R6 pass. -/
abbrev Region.Legal (r : Region) : Prop :=
  r.layer ≤ 15 ∧ r.x0 ≤ r.x1 ∧ r.x1 ≤ 4095 ∧ r.y0 ≤ r.y1 ∧ r.y1 ≤ 4095 ∧ opMatches r.op r.source ∧
  r.mask ≠ 0 ∧ r.opacity ≤ 16 ∧ r.fill.Legal ∧ r.base ≤ 1048575 ∧ 1 ≤ r.pitch ∧ r.pitch ≤ 4096 ∧
  r.srcX ≤ 4095 ∧ r.srcY ≤ 4095 ∧ thresholdLegal r.threshold ∧ r.freezeLimit ≤ 255 ∧
  (r.source = .overlay → r.srcX + (r.x1 - r.x0) < r.pitch ∧
    r.base + (r.srcY + r.y1 - r.y0) * r.pitch + r.srcX + (r.x1 - r.x0) < 1048576)

/-- A palette entry in the ranges of R7. -/
abbrev PaletteEntry.Legal (e : PaletteEntry) : Prop := e.colour.Legal ∧ e.opacity ≤ 16

/-- A cue record in the ranges of R8. -/
abbrev Cue.Legal (c : Cue) : Prop := c.line ≤ 4095

/-- A whole bank of legal records (R1). -/
abbrev CompositionSet.Legal (b : CompositionSet) : Prop :=
  b.regions.length = 16 ∧ b.palette.length = 256 ∧ b.cues.length = 8 ∧
  (∀ r ∈ b.regions, r.Legal) ∧ (∀ e ∈ b.palette, e.Legal) ∧ (∀ c ∈ b.cues, c.Legal)

/-- A fence record in the ranges of R101. -/
abbrev Fence.Legal (f : Fence) : Prop :=
  f.base ≤ 1048575 ∧ 1 ≤ f.pitch ∧ f.pitch ≤ 4096 ∧ f.fx0 ≤ f.fx1 ∧ f.fx1 ≤ 4095 ∧
  f.fy0 ≤ f.fy1 ∧ f.fy1 ≤ 4095

/-- Free-run parameters in the ranges of 3.5 (R59). -/
abbrev FreeRun.Legal (f : FreeRun) : Prop :=
  16 ≤ f.geometry.active ∧ f.geometry.active ≤ 4096 ∧ 64 ≤ f.geometry.width ∧
  f.geometry.width ≤ 4096 ∧ f.geometry.mgmt ≤ 4 ∧ f.geometry.mgmt + 1 ≤ f.geometry.firstActive ∧
  f.geometry.firstActive + f.geometry.active ≤ f.geometry.total ∧ f.geometry.total ≤ 4400 ∧
  8000 ≤ f.period ∧ f.period ≤ 100000 ∧ f.holdoverLimit ≤ 255 ∧ f.slate.Legal

/-! ### Laws of the state -/

/-- The store and both line buffers stay in canonical form, the store within its addresses (R96). -/
abbrev StoreLaw (s : State) : Prop :=
  Memory.Wf s.os.cells ∧ (∀ c ∈ s.os.cells, c.1 < 1048576) ∧
  Memory.Wf s.sf.showing.octets ∧ Memory.Wf s.sf.filling.octets

/-- The places and slots of the engine (R160, R161, R174). -/
abbrev CapacityLaw (s : State) : Prop :=
  s.ce.queue.length ≤ 8 ∧ s.ce.cache.length ≤ 8 ∧
  s.ce.sequencedResponses + s.ce.reservations ≤ 8 ∧
  s.ce.reservations = s.ce.queue.countP Queued.sequenced +
    (match s.ce.exec with
      | some e => if e.command.sequenced then 1 else 0
      | none => 0) +
    (match s.ce.cancel with
      | some c => c.removed.length
      | none => 0) ∧
  (∀ c ∈ s.ce.cancel, s.ce.slot = .reserved ∧ ∀ q ∈ c.removed, q.sequenced = true) ∧
  (s.ce.slot = .reserved → s.ce.cancel.isSome = true) ∧
  s.ce.responses.countP (fun r => r.immediate) = if s.ce.slot = .filled then 1 else 0

/-- A CE burst is in progress at the store. -/
def ceBusy (s : State) : Bool :=
  match s.os.busy with
  | some ⟨.ce, _, _⟩ => true
  | _ => false

/-- The operation record, the arbiter and the command in execution agree (R98, R100, R117, R118, R172):
a burst of the CE is waiting or granted exactly while an operation is RUNNING; an ended operation
stands only for its granted burst; a store command is in execution exactly while the record holds
an operation not dropped by NODE_RESET; nothing waits while the store is free. -/
abbrev RecordLaw (s : State) : Prop :=
  (s.os.op = none → s.os.ceWaiting = none ∧ ceBusy s = false) ∧
  (∀ op ∈ s.os.op, op.running = false →
    op.ending = false ∧ s.os.ceWaiting = none ∧ ceBusy s = false) ∧
  (∀ op ∈ s.os.op, op.running = true → s.os.ceWaiting.isSome ≠ ceBusy s) ∧
  (∀ op ∈ s.os.op, op.ending = true → ceBusy s = true ∧
    (s.ce.exec = none ∨ s.ce.cancel.isSome = true)) ∧
  (∀ op ∈ s.os.op, op.ending = false → s.ce.exec.isSome = true) ∧
  (∀ e ∈ s.ce.exec, e.progress = .store ↔ s.os.op.isSome = true) ∧
  (s.os.busy = none → s.os.sfWaiting = none ∧ s.os.ceWaiting = none)

/-- Edit state, timer, commit request and the waiting command (R20, R21, R23, R172). -/
abbrev EditLaw (s : State) : Prop :=
  (s.ct.editOpen = true → s.ct.request = none ∧ 1 ≤ s.ct.timer ∧ s.ct.timer ≤ 64) ∧
  (s.ct.editOpen = false → s.ct.timer = 0) ∧
  (s.ct.request = some .command → ∃ e ∈ s.ce.exec, e.progress = .commit) ∧
  (∀ e ∈ s.ce.exec, e.progress = .commit → s.ct.request.isSome = true) ∧
  (∀ e ∈ s.ce.exec, e.progress = .resetCommit → s.ct.request = some .reset ∧
    1 ≤ fieldAt e.command.payload 0 1 ∧ fieldAt e.command.payload 0 1 ≤ 64)

/-- Counters and the notification queue stay within their bounds (R165, R182, R183, R190). -/
abbrev CounterLaw (s : State) : Prop :=
  s.nq.entries.length ≤ 16 ∧ s.nq.lost ≤ 255 ∧ s.nq.lostTotal ≤ 65535 ∧
  s.mlu.crcErrors ≤ 65535 ∧ s.mlu.framingErrors ≤ 65535 ∧ s.mlu.notForwarded ≤ 65535 ∧
  s.mlu.misaddressed ≤ 65535 ∧ s.ce.discarded ≤ 65535 ∧ s.ce.duplicates ≤ 65535 ∧
  s.ce.discardedSince ≤ 255 ∧ s.rtu.lockLosses ≤ 65535 ∧ s.sf.underruns.length = 16 ∧
  s.sf.reported.length = 16 ∧ (∀ n ∈ s.sf.underruns, n ≤ 65535) ∧ s.mlu.address ≤ 30

/-- A locked geometry in the ranges of R41. -/
abbrev Geometry.Regular (g : Geometry) : Prop :=
  64 ≤ g.width ∧ g.width ≤ 4096 ∧ 16 ≤ g.active ∧ g.active ≤ 4096 ∧ g.total ≤ 4400 ∧
  1 ≤ g.firstActive

/-- Lock state, timers and output timing agree, and the slate colours stored and in force are legal (R42,
R43, R47, R49, R51, R52, R59, R61, R64). -/
abbrev TimingLaw (s : State) : Prop :=
  (s.rtu.flywheel.isSome = true ↔ s.rtu.lock = .locked) ∧
  (s.rtu.acquire.isSome = true ↔ s.rtu.lock = .acquiring) ∧
  (s.rtu.watching = true → s.rtu.lock = .holdover) ∧
  (s.out.inputTimed = true → s.rtu.lock = .locked ∧ s.out.running = true) ∧
  (s.rtu.awaitSwitch = true ↔ s.rtu.lock = .locked ∧ s.out.inputTimed = false) ∧
  (s.rtu.lock = .locked ∨ s.rtu.lock = .holdover →
    s.rtu.locked.isSome = true ∧ s.rtu.measured.isSome = true) ∧
  (∀ g ∈ s.rtu.locked, g.Regular) ∧ (∀ d ∈ s.rtu.measured, 1 ≤ d ∧ d ≤ 4294967295) ∧
  s.rtu.holdoverCount ≤ 255 ∧ s.rtu.params.Legal ∧ s.comp.slate.Legal ∧
  (s.resetLow = true → s.rtu.lock = .freeRun)

/-- Both banks and the fences hold legal records (R1, R2, R7, R8, R101). -/
abbrev RecordsLegal (s : State) : Prop :=
  s.ct.pendingSet.Legal ∧ s.ct.activeSet.Legal ∧ s.os.fences.length = 4 ∧
  ∀ f ∈ s.os.fences, f.Legal

/-- A RUNNING operation was checked against its fences and writes inside its footprint: its fences are
those in force until NODE_RESET ends it, it passed the checks, and a write burst of the CE is that of
its next step (R103, R104, R107, R118). -/
abbrev FenceLaw (s : State) : Prop :=
  Memory.Wf s.os.cells ∧
  ∀ op ∈ s.os.op, op.running = true →
    (op.ending = false → op.fences = s.os.fences) ∧
    op.params.refusal op.fences = none ∧ op.next < op.params.steps ∧
    (∀ r ∈ s.os.ceWaiting, r.write = true → (r.addr, r.len) = op.params.targetRun op.next) ∧
    (∀ g ∈ s.os.busy, g.owner = .ce → g.request.write = true →
      (g.request.addr, g.request.len) = op.params.targetRun op.next)

/-- An address that a fence in REJECT or CLIP mode protects (R103). -/
def protectedBy (fences : List Fence) (a : Nat) : Bool :=
  fences.any fun f => decide (f.mode ≠ .off) && f.contains a

/-! ### Answers of the engine -/

/-- The sequence is new: ABSENT last sequence, or 1..16 ahead of it (R162). -/
def newSequence (last : Option Byte) (seq : Byte) : Bool :=
  match last with
  | none => true
  | some a => decide (1 ≤ (seq - a).toNat ∧ (seq - a).toNat ≤ 16)

/-- A sequenced command with this sequence is accepted, and nothing keeps it from beginning at once
(R97, R146, R161, R162, R169). -/
abbrev Ready (seq : Byte) (s : State) : Prop :=
  s.resetLow = false ∧ s.os.clearing = false ∧ 1 ≤ s.mlu.address ∧ s.mlu.address ≤ 30 ∧
  s.ce.exec = none ∧ s.os.op = none ∧ s.ce.queue = [] ∧
  s.ce.sequencedResponses + s.ce.reservations < 8 ∧ newSequence s.ce.lastSeq seq = true

/-- The command was accepted, executed and answered, with no other effect on the engine: its sequence
is the last accepted one, its response is queued and a copy is in the replay cache (R162, R171,
R174). -/
def State.answered (s : State) (seq code : Byte) (status : Status) (data : List Byte) : State :=
  { s with ce := { s.ce with
      lastSeq := some seq
      responses := s.ce.responses ++ [⟨seq, code, status, false, data, false, s.mlu.assembled⟩]
      cache := (s.ce.cache ++ [(⟨seq, code, status, data⟩ : CacheEntry)]).drop (s.ce.cache.length + 1 - 8) } }

/-- The command was accepted and stays in execution, its slot reserved (R162, R172). -/
def State.executing (s : State) (seq code : Byte) (payload : List Byte) (progress : Progress) :
    State :=
  { s with ce := { s.ce with
      lastSeq := some seq
      reservations := s.ce.reservations + 1
      exec := some ⟨⟨true, seq, code, payload⟩, progress⟩ } }

/-- A sequenced command in execution completed: its reservation became a queued response with a copy in
the replay cache, and no command is in execution (R171, R174). -/
def State.completed (s : State) (q : Queued) (status : Status) (data : List Byte) : State :=
  { s with ce := { s.ce with
      exec := none
      reservations := s.ce.reservations - 1
      responses :=
        s.ce.responses ++ [⟨q.seq, q.code, status, false, data, false, s.mlu.assembled⟩]
      cache := (s.ce.cache ++ [(⟨q.seq, q.code, status, data⟩ : CacheEntry)]).drop
        (s.ce.cache.length + 1 - 8) } }

/-- The command was accepted and waits in the queue (R162). -/
def State.waiting (s : State) (q : Queued) : State :=
  { s with ce := { s.ce with
      queue := s.ce.queue ++ [q], reservations := s.ce.reservations + 1, lastSeq := some q.seq } }

/-- The row that a controller's sequenced command is, by its code and payload (R170, R197). -/
def sequencedRow (seq code : Byte) (p : List Byte) : Option Instr :=
  match code.toNat with
  | 0x01 => some (.readInfo seq p)
  | 0x02 => some (.readStatus seq p)
  | 0x03 => some (.clearCounters seq p)
  | 0x04 => some (.setNotifyMask seq p)
  | 0x10 => some (.setTiming seq p)
  | 0x20 => some (.editOpen seq p)
  | 0x21 =>
    if p = [0x00] then some (.editCloseDiscard seq)
    else if p = [0x01] then some (.editCloseKeep seq)
    else if p = [0x02] then some (.editCloseCommit seq)
    else none
  | 0x22 => some (.sequencedCommit seq p)
  | 0x23 => some (.setRegion seq p)
  | 0x24 => some (.setPalette seq p)
  | 0x25 => some (.setCue seq p)
  | 0x26 => some (.readRegion seq p)
  | 0x27 => some (.readPalette seq p)
  | 0x28 => some (.readCue seq p)
  | 0x30 => some (.ovlWrite seq p)
  | 0x31 => some (.ovlFill seq p)
  | 0x32 => some (.ovlCopy seq p)
  | 0x33 => some (.ovlRead seq p)
  | 0x34 => some (.setFence seq p)
  | 0x35 => some (.readFence seq p)
  | 0x40 => some (.readMeasure seq p)
  | 0x41 => some (.setReport seq p)
  | 0x70 => none
  | 0x71 => none
  | _ => some (.unknownCode seq code p)

/-- The payload lengths R170 admits for a code that names a sequenced command; none for another code. -/
def payloadLengths (code : Byte) : List Nat :=
  match code.toNat with
  | 0x01 | 0x02 | 0x03 | 0x22 => [0]
  | 0x20 | 0x21 | 0x35 | 0x40 => [1]
  | 0x04 | 0x26 | 0x28 | 0x41 => [2]
  | 0x27 => [3]
  | 0x25 => [7]
  | 0x33 => [10]
  | 0x31 => [14]
  | 0x34 => [15]
  | 0x10 => [17]
  | 0x32 => [22]
  | 0x23 => [34]
  | 0x24 => (List.range 32).map fun n => 7 + 5 * n
  | 0x30 => (List.range 200).map fun n => 10 + n
  | _ => []

/-- The payload of a SET_TIMING that carries these parameters (R197). -/
def FreeRun.octets (f : FreeRun) : List Byte :=
  toOctets 2 f.geometry.total ++ toOctets 2 f.geometry.active ++
    toOctets 2 f.geometry.firstActive ++ toOctets 2 f.geometry.width ++
    [octet f.geometry.mgmt] ++ toOctets 3 f.period ++ [octet f.holdoverLimit] ++
    toOctets 4 f.slate.packed

/-! ### Spans and pixels -/

/-- Region `k` stands before region `i` in a fill list: a higher layer, or the same layer and a lower
index (R83). -/
abbrev fillsBefore (bank : CompositionSet) (k i : Nat) : Prop :=
  (bank.region i).layer < (bank.region k).layer ∨
  (bank.region i).layer = (bank.region k).layer ∧ k < i

/-- Region `k` is visited before region `i`: a lower layer, or the same layer and a lower index (R67). -/
abbrev visitedBefore (bank : CompositionSet) (k i : Nat) : Prop :=
  (bank.region k).layer < (bank.region i).layer ∨
  (bank.region k).layer = (bank.region i).layer ∧ k < i

/-- The octets of the buffer that a placed span takes (R85). -/
def placedLength : SpanStatus → Nat
  | .placed _ n => n
  | _ => 0

/-- A bank with one region's enable off. -/
def CompositionSet.without (bank : CompositionSet) (i : Nat) : CompositionSet :=
  { bank with regions := bank.regions.set i { bank.region i with enable := false } }

/-! ### Checks of store commands (R102, R108, R110, R112, R115) -/

/-- The offset of the first field of a view out of its range, the view standing at offset `o`. -/
def View.fault (v : View) (o : Nat) : Option Nat :=
  if 1048575 < v.base then some o
  else if v.pitch < 1 ∨ 4096 < v.pitch then some (o + 3)
  else if 4095 < v.x then some (o + 5)
  else if 4095 < v.y then some (o + 7)
  else none

/-- The offset that groups 1 and 2 of R107 report: the first field out of its range in payload order,
then the first row that leaves its surface row. -/
def StoreParams.fault : StoreParams → Option Nat
  | .write v _ => v.fault 0
  | .fill v w h _ => (v.fault 0).or <|
      if w < 1 ∨ 4096 < w then some 9
      else if h < 1 ∨ 4096 < h then some 11
      else if v.pitch < v.x + w then some 5
      else none
  | .copy src dst w h => ((src.fault 0).or (dst.fault 9)).or <|
      if w < 1 ∨ 4096 < w then some 18
      else if h < 1 ∨ 4096 < h then some 20
      else if src.pitch < src.x + w then some 5
      else if dst.pitch < dst.x + w then some 14
      else none
  | .read v count => (v.fault 0).or (if count < 1 ∨ 200 < count then some 9 else none)

/-- The octet at `a` lies in the fence's rectangle of its surface (R102). -/
abbrev Fence.Covers (f : Fence) (a : Nat) : Prop :=
  f.base ≤ a ∧ f.fx0 ≤ (a - f.base) % f.pitch ∧ (a - f.base) % f.pitch ≤ f.fx1 ∧
  f.fy0 ≤ (a - f.base) / f.pitch ∧ (a - f.base) / f.pitch ≤ f.fy1

/-- A REJECT fence covers some destination octet of a write (R103). -/
abbrev StoreParams.rejectedBy (p : StoreParams) (f : Fence) : Prop :=
  p.writes = true ∧ f.mode = .reject ∧ ∃ r < p.height, ∃ c < p.width, f.Covers (p.target.at r c)

/-! ### Frames and packets -/

/-- The output raster at the start of the first frame after a reset, frame 1 with the default free-run
geometry: line 0 is BLANK and black (R54, R58, R61, R62). -/
def firstFrame (startedAt : Nat) : OutputRaster :=
  { running := true, inputTimed := false, geometry := .default, period := 16667,
    startedAt := startedAt, line := 0, activeCount := 0, frameEnded := false, activated := false,
    counter := 1, tx := startWord .blank true :: List.replicate 1280 0 }

/-- A whole packet with its CRC (R139, R142). -/
def packetOf (dest src kind seq code : Byte) (payload : List Byte) : Packet :=
  sealPacket ([dest, src, kind, seq, code, octet payload.length] ++ payload)

/-! ### Input frames and lock states -/

/-- The input frame that an input frame start ends, its last line measured into it (R39, R40). -/
def State.endedFrame (s : State) : Option InputFrame :=
  s.rtu.frame.map fun f =>
    match s.rtu.cur with
    | some l => f.close l
    | none => f

/-- The ended frame is regular, and its five fields are those of a present geometry (R41). -/
abbrev InputFrame.Matches (f : InputFrame) (g : Option Geometry) : Prop :=
  g = some ⟨f.lines, f.active, f.firstActive, f.width, f.mgmt⟩ ∧
  f.contiguous = true ∧ f.uniform = true ∧ f.clean = true ∧ 64 ≤ f.width ∧ f.width ≤ 4096 ∧
  16 ≤ f.active ∧ f.active ≤ 4096 ∧ f.lines ≤ 4400 ∧ 1 ≤ f.firstActive

/-- The measured duration is that of `f`, in whole microseconds, and the flywheel runs from now for it
and its eighth (R39, R47). A duration outside the range of R42 is open in that range (log 13). -/
abbrev FlywheelRuns (f : InputFrame) (t : State) : Prop :=
  ∃ d, t.rtu.measured = some d ∧ t.rtu.flywheel = some (t.now + (d + d / 8) * 1000) ∧
    1 ≤ d ∧ d ≤ 4294967295 ∧
    (1 ≤ (t.now - f.startedAt) / 1000 → (t.now - f.startedAt) / 1000 ≤ 4294967295 →
      d = (t.now - f.startedAt) / 1000)

/-- The output, the banks, the Compositor, the SF, the store and the engine are as they were. -/
abbrev OutputRunsOn (s t : State) : Prop :=
  t.out = s.out ∧ t.ct = s.ct ∧ t.comp = s.comp ∧ t.sf = s.sf ∧ t.os = s.os ∧ t.ce = s.ce

/-- An input frame start that ends `f` enters LOCKED with cause MATCH; the output has not switched yet
(R44, R49, R50, R52). -/
abbrev EntersLocked (f : InputFrame) (s t : State) : Prop :=
  t.rtu = { s.rtu with
    lock := .locked, locked := some ⟨f.lines, f.active, f.firstActive, f.width, f.mgmt⟩
    acquire := none, watching := false, awaitSwitch := true, frame := some (.start t.now)
    prev := s.rtu.cur, cur := t.rtu.cur, candidate := t.rtu.candidate
    measured := t.rtu.measured, flywheel := t.rtu.flywheel } ∧
  FlywheelRuns f t ∧ t.nq = (offer (.lock s.rtu.lock .locked .matched) s).nq ∧ OutputRunsOn s t

/-- The notification stands in the queue with the number of the frame in progress, unless its kind is
masked or the queue is full (R58, R183). -/
abbrev QueuedNow (n : Notice) (t : State) : Prop :=
  t.nq.mask.getLsbD n.position = false ∨ 16 ≤ t.nq.entries.length ∨
    ∃ line, ⟨n, t.out.counter, line⟩ ∈ t.nq.entries

/-! ### Lines on the output port -/

/-- The port holds the output line that carries input line `a`: its kind, as many words as the RTU kept of
it, on a BLANK line those words, and on an ACTIVE line of index `y` the composed pixels over them (R51,
R62, R63, R67). -/
abbrev CarriesLine (a : InputLine) (frameStart : Bool) (y : Nat) (t : State) : Prop :=
  ∃ words, t.out.tx = startWord a.kind frameStart :: words ∧ words.length = a.words.length ∧
    (a.kind = .blank → words = a.words.map pixelWord) ∧
    (a.kind = .active → words = a.words.mapIdx fun x p =>
      pixelWord (composePixel t x y (pixelColour p)).pixel)

/-- What the pixels of ACTIVE line `y` are composed from: the active bank as it was, the cue mask after the
line's cues, and, where the filling buffer was that of line `y`, its octets, with the spans not complete
LATE (R65, R75, R87). -/
abbrev LineSettled (y : Nat) (s t : State) : Prop :=
  t.ct.activeSet = s.ct.activeSet ∧ t.comp.slate = s.comp.slate ∧
  t.comp.cueMask = cueMaskAt s.ct.activeSet y s.comp.cueMask ∧
  (y < s.out.geometry.active → s.sf.filling.owner = some y →
    t.sf.showing.octets = s.sf.filling.octets ∧
    t.sf.showing.status = s.sf.filling.status.map fun
      | .placed _ _ => .late
      | x => x)

/-- The port holds an MGMT line of this output area, three octets a word (R138, R151). -/
abbrev PortArea (frameStart : Bool) (area : List Byte) (t : State) : Prop :=
  t.out.tx = startWord .mgmt frameStart :: (areaPixels area).map pixelWord

/-! ### Packets forwarded and emitted -/

/-- The packet is forwarded: it joins the forward list of the arriving line `l` in LOCKED, and is dropped
and counted outside it (R149, R150). -/
def State.passing (s : State) (p : Packet) (l : InputLine) : State :=
  if s.rtu.lock = .locked then
    { s with rtu := { s.rtu with cur := some { l with forward := l.forward ++ [p] } } }
  else { s with mlu := { s.mlu with notForwarded := countUp s.mlu.notForwarded } }

/-- The packet of the `k`th response of a line: the first carries the discarded count (R154, R165). -/
def emittedResponse (s : State) (k : Nat) (r : Response) : Packet :=
  packetOf 0 (octet s.mlu.address) 0x02 r.seq r.code
    ([octet r.status.code, octet (flagCode r.replay),
      octet (if k = 0 then s.ce.discardedSince else 0)] ++ r.data)

/-- The packet of the `k`th notification of a line: the sequence runs on, and the first carries the lost
count (R154, R157, R185). -/
def emittedNotification (s : State) (k : Nat) (e : Notification) : Packet :=
  packetOf 0 (octet s.mlu.address) 0x03 (s.mlu.sequence + BitVec.ofNat 8 k)
    (octet (e.notice.position + 1))
    (toOctets 2 e.frame.toNat ++ [octet (if k = 0 then s.nq.lost else 0)] ++ e.notice.data)

/-- Two lists by turns, the first list first, until one runs dry (R152). -/
def alternate {α : Type} : List α → List α → List α
  | [], ys => ys
  | xs, [] => xs
  | x :: xs, y :: ys => x :: y :: alternate xs ys

/-- The packets up to the first that does not fit the room left (R152). -/
def fitting : Nat → List Packet → List Packet
  | _, [] => []
  | room, p :: ps => if p.length ≤ room then p :: fitting (room - p.length) ps else []

/-! ### Store operations as a whole -/

/-- What a write operation means to put at the point (column c, row r) of its destination, the store
holding `cells` when it began (R109, R111, R113). -/
def StoreParams.valueAt (p : StoreParams) (cells : Memory) (r c : Nat) : Byte :=
  match p with
  | .write _ indices => indices.getD c 0
  | .fill _ _ _ index => index
  | .copy src _ _ _ => Memory.read cells (src.at r c)
  | .read _ _ => 0

/-- Points of the destination that satisfy `f`. -/
def StoreParams.countTargets (p : StoreParams) (f : Nat → Bool) : Nat :=
  ((List.range p.height).map fun r => (List.range p.width).countP fun c => f (p.target.at r c)).sum

/-- `n` bursts of the command engine complete one after another. -/
def engineBursts : Nat → State → Option State
  | 0, s => some s
  | n + 1, s =>
    match exec .ceBurstComplete s with
    | .next t => engineBursts n t
    | _ => none

/-- Only the command engine uses the store: no span fetch is in progress and no burst waits or runs. -/
abbrev storeIdle (s : State) : Prop :=
  s.sf.fetch = none ∧ s.os.sfWaiting = none ∧ s.os.ceWaiting = none ∧ s.os.busy = none

end Sys2Proof.Machine
end

