-- ==== Sys2Proof/WellFormed.lean ====
section
/-! DEFINITION. Which commands a packet can carry. -/

namespace Sys2Proof

/-- A payload length octet holds 0..240 (R139, R141). -/
def payloadFits (payload : List Byte) : Bool := payload.length ≤ 240

/-- The codes of R197. -/
def knownCodes : List Byte :=
  [0x01, 0x02, 0x03, 0x04, 0x10, 0x20, 0x21, 0x22, 0x23, 0x24, 0x25, 0x26, 0x27, 0x28,
   0x30, 0x31, 0x32, 0x33, 0x34, 0x35, 0x40, 0x41, 0x70, 0x71]

/-- A step is well formed when its payload fits a packet and, for UNKNOWN_CODE, its code names no
command (R170, R197). A step without a payload is always well formed. -/
def Instr.wellFormed : Instr → Bool
  | .powerOn | .pinReset | .resetRelease => true
  | .inputLineStart _ _ | .inputPixelWord _ => true
  | .acquireTimerExpiry | .flywheelExpiry | .internalLineStart | .holdoverLimit => true
  | .editExpiry | .sfBurstComplete | .ceBurstComplete | .storeChecksComplete => true
  | .reportCountdown _ | .commandBegin | .storeClearingDone => true
  | .editCloseDiscard _ | .editCloseKeep _ | .editCloseCommit _ => true
  | .unknownCode _ code p => payloadFits p && !knownCodes.contains code
  | .broadcastCommit p => payloadFits p
  | .nodeReset _ _ p => payloadFits p
  | .readInfo _ p | .readStatus _ p | .clearCounters _ p | .setNotifyMask _ p => payloadFits p
  | .setTiming _ p | .editOpen _ p | .sequencedCommit _ p => payloadFits p
  | .setRegion _ p | .setPalette _ p | .setCue _ p => payloadFits p
  | .readRegion _ p | .readPalette _ p | .readCue _ p => payloadFits p
  | .ovlWrite _ p | .ovlFill _ p | .ovlCopy _ p | .ovlRead _ p => payloadFits p
  | .setFence _ p | .readFence _ p | .readMeasure _ p | .setReport _ p => payloadFits p
  | .cancel _ p => payloadFits p

end Sys2Proof
end

