-- ==== Sys2Proof/Certificates/Slice0/Obligations.lean ====
section
/-! DEFINITION. The statements for the provers. -/

section
open Sys2Proof Sys2Proof.Machine

/-! ### The machine -/

/-- A step runs exactly the command at the front of the queue, on the state with the queue's rest; an
empty queue idles (the model's choice, log 8). -/
def Obligations.StepRunsFrontOrIdles : Prop :=
  (∀ (c : Instr) (s : State), step { s with pending := c :: s.pending } = exec c s) ∧
  ∀ s : State, s.pending = [] → step s = .next s

/-- No command touches the queue of waiting commands, and every command answers a next state, but for a
burst whose granted request reaches past the last store address (R98). The model's choices: that such a
burst faults (log 22), and that an event which cannot occur answers a next state too (log 3). -/
def Obligations.CommandsAnswerAndLeaveQueue : Prop :=
  (∀ (c : Instr) (s t : State), exec c s = .next t → t.pending = s.pending) ∧
  ∀ (c : Instr) (s : State),
    (∃ t, exec c s = .next t) ∨
    ∃ g ∈ s.os.busy, 1048576 < g.request.addr + g.request.len ∧
      exec c s = .fault (.storeAddress (g.request.addr + g.request.len)) ∧
      (g.owner = .sf ∧ c = .sfBurstComplete ∨ g.owner = .ce ∧ c = .ceBurstComplete)

/-- Frames by groups of rows. Store octets change only by POWER_ON, PIN_RESET and CE_BURST_COMPLETE. A
controller's command, a CE burst, the end of checks and COMMAND_BEGIN, taken as one group, leave the
output, the clock, the Compositor, the active bank, the node address and the RTU but for its parameters
and lock_losses as they are. A span burst, the acquire timer's expiry, an edit's expiry, a report's last
count and a pixel word change only the blocks named. A line start, internal or from the input, a flywheel
expiry and a holdover limit keep RESET, the node address and a running clearing, and never turn the clock
back, which is the model's choice (log 4); no other frame is claimed for them, nor any for a reset. -/
def Obligations.CommandsTouchOnlyTheirBlocks : Prop :=
  ∀ (c : Instr) (s t : State), exec c s = .next t →
    (c ≠ .powerOn → c ≠ .pinReset → c ≠ .ceBurstComplete → t.os.cells = s.os.cells) ∧
    ((∃ seq code p, sequencedRow seq code p = some c) ∨ (∃ p, c = .broadcastCommit p) ∨
        (∃ seq p, c = .cancel seq p) ∨ (∃ b seq p, c = .nodeReset b seq p) ∨
        c = .ceBurstComplete ∨ c = .storeChecksComplete ∨ c = .commandBegin →
      t = { s with ct := t.ct, rtu := t.rtu, sf := t.sf, os := t.os, mon := t.mon, mlu := t.mlu,
                   ce := t.ce, nq := t.nq } ∧
      t.rtu = { s.rtu with params := t.rtu.params, lockLosses := t.rtu.lockLosses } ∧
      t.ct.activeSet = s.ct.activeSet ∧ t.mlu.address = s.mlu.address) ∧
    (c = .sfBurstComplete → t = { s with sf := t.sf, os := t.os } ∧
      t.os.op = s.os.op ∧ t.os.fences = s.os.fences ∧ t.sf.showing = s.sf.showing) ∧
    (c = .acquireTimerExpiry →
      t = { s with now := t.now, rtu := t.rtu, mon := t.mon, nq := t.nq }) ∧
    (c = .editExpiry → t = { s with ct := t.ct, nq := t.nq }) ∧
    (∀ i, c = .reportCountdown i → t = { s with mon := t.mon, nq := t.nq }) ∧
    (∀ bits, c = .inputPixelWord bits → t = { s with
        free := t.free, ct := t.ct, rtu := t.rtu, sf := t.sf, os := t.os, mon := t.mon,
        mlu := t.mlu, ce := t.ce, nq := t.nq } ∧ t.ct.activeSet = s.ct.activeSet) ∧
    ((∃ bits clock, c = .inputLineStart bits clock) ∨ c = .internalLineStart ∨
        c = .flywheelExpiry ∨ c = .holdoverLimit →
      t.resetLow = s.resetLow ∧ s.now ≤ t.now ∧ t.mlu.address = s.mlu.address ∧
      t.os.clearing = s.os.clearing)

/-! ### What every step keeps -/

/-- The laws hold in the state after reset. -/
def Obligations.LawsHoldAtReset : Prop :=
  StoreLaw State.reset ∧ CapacityLaw State.reset ∧ RecordLaw State.reset ∧
  EditLaw State.reset ∧ CounterLaw State.reset ∧ TimingLaw State.reset ∧
  RecordsLegal State.reset ∧ FenceLaw State.reset

/-- Every step keeps the store and the line buffers in canonical form, and the store within its addresses
0..1,048,575 (R96). -/
def Obligations.StepKeepsStoreForm : Prop :=
  ∀ s t : State, StoreLaw s → step s = .next t → StoreLaw t

/-- Every step keeps the capacities of the engine: at most 8 queued commands, at most 8 queued responses
and reservations together, one more for an immediate command, one reservation for each accepted
sequenced command not yet answered (R160, R161, R174). -/
def Obligations.StepKeepsCapacities : Prop :=
  ∀ s t : State, CapacityLaw s → step s = .next t → CapacityLaw t

/-- Every step keeps the operation record, the arbiter and the command in execution in agreement (R98,
R100, R117, R118, R172). -/
def Obligations.StepKeepsOperationRecord : Prop :=
  ∀ s t : State, RecordLaw s → step s = .next t → RecordLaw t

/-- Every step keeps the relation of edit state, timer, commit request and waiting command: a commit
request is never present while the edit is OPEN (R20, R21, R23, R172). -/
def Obligations.StepKeepsEditLaw : Prop :=
  ∀ s t : State, RecordLaw s → EditLaw s → step s = .next t → EditLaw t

/-- Every step keeps the counters and the notification queue within their bounds (R182, R183, R190) and
the node address in 0..30 (R146). -/
def Obligations.StepKeepsCounterBounds : Prop :=
  ∀ s t : State, CounterLaw s → step s = .next t → CounterLaw t

/-- Every step keeps lock state, timers and output timing in agreement: the output is in input timing
only in LOCKED (R42, R51, R52, R59). -/
def Obligations.StepKeepsTimingLaw : Prop :=
  ∀ s t : State, TimingLaw s → step s = .next t → TimingLaw t

/-- Every step keeps both banks and the fences legal (R2, R5 to R8, R101). -/
def Obligations.StepKeepsRecordsLegal : Prop :=
  ∀ s t : State, RecordsLegal s → step s = .next t → RecordsLegal t

/-- Every step keeps the law of a RUNNING operation's fences and bursts (R103, R104, R107, R118). -/
def Obligations.StepKeepsFenceLaw : Prop :=
  ∀ s t : State, RecordLaw s → FenceLaw s → step s = .next t → FenceLaw t

/-- No command but POWER_ON changes an octet that a fence in REJECT or CLIP mode protects against the
operation in progress; with no operation RUNNING the store is unchanged (R97, R103, R104). -/
def Obligations.FencedOctetsStay : Prop :=
  ∀ (c : Instr) (s t : State), RecordLaw s → FenceLaw s → c ≠ .powerOn → exec c s = .next t →
    ∀ a : Nat, (∀ op ∈ s.os.op, op.running = true → protectedBy op.fences a = true) →
      Memory.read t.os.cells a = Memory.read s.os.cells a

/-- The active bank changes only at power-on and pin reset, to the defaults, or in a step that starts an
output line, with the edit CLOSED and a commit requested, and then to the pending bank as it stood
(R10, R30). -/
def Obligations.ActiveSetChangesOnlyByCommit : Prop :=
  ∀ (c : Instr) (s t : State), exec c s = .next t →
    t.ct.activeSet = s.ct.activeSet ∨
    (c = .powerOn ∨ c = .pinReset) ∧ t.ct.activeSet = CompositionSet.default ∨
    ((∃ bits clock, c = .inputLineStart bits clock) ∨ c = .internalLineStart ∨
        c = .flywheelExpiry ∨ c = .holdoverLimit ∨ c = .resetRelease) ∧
      s.ct.editOpen = false ∧ s.ct.request.isSome = true ∧
      t.ct.activeSet = s.ct.pendingSet

/-! ### Resets -/

/-- POWER_ON from any state: every item at its power-on value and the first internal frame started.
RESET_RELEASE after a pin reset: the first internal frame starts, and nothing else changes (R10, R61,
R79, R95, R97, R137, R158, R181, R189). The model's choices: the clock and the frame's start time at 0
(log 20), the octets of the line buffers at 0 (log 19), a store that reads 0 while its clearing still runs
(log 17), and an output that holds the whole of line 0 at its start (log 18). -/
def Obligations.ResetsStartFirstFrame : Prop :=
  (∀ s : State, exec .powerOn s =
     .next { State.reset with pending := s.pending, free := s.free, out := firstFrame 0 }) ∧
  ∀ s : State, s.resetLow = true → s.rtu = .initial → s.out = .initial → s.comp = .initial →
    s.sf = .initial → s.mon = .initial → s.os.sfWaiting = none → s.os.busy = none →
    exec .resetRelease s = .next { s with resetLow := false, out := firstFrame s.now }

/-- PIN_RESET from any state: every item at its pin reset value; the store keeps its octets, but each
octet of a write burst cut short, less those it masks, holds its old or its new value (R97, R119). That the
clock and a clearing that still runs go on over it is the model's reading (log 21); the octets of the line
buffers at 0 (log 19), and start time, geometry, period and slate before the first frame (log 20), are the
model's choices. -/
def Obligations.PinResetLeavesDefaults : Prop :=
  ∀ s : State, Memory.Wf s.os.cells → ∃ t, exec .pinReset s = .next t ∧
    t = { State.reset with
          pending := s.pending, resetLow := true, now := s.now, free := t.free,
          os := { OverlayStore.initial with cells := t.os.cells, clearing := s.os.clearing } } ∧
    ∀ a : Nat, Memory.read t.os.cells a = Memory.read s.os.cells a ∨
      ∃ op ∈ s.os.op, ∃ g ∈ s.os.busy, g.owner = .ce ∧ g.request.write = true ∧
        g.request.addr ≤ a ∧ a < g.request.addr + g.request.len ∧
        clippedBy op.fences a = false ∧
        Memory.read t.os.cells a = (op.burstData g.request.len).getD (a - g.request.addr) 0

/-- STORE_CLEARING_DONE ends the clearing and changes nothing else; until then, and with the node address
0, no addressed command has an effect (R97, R146, R181; that a row handed over at such a time is passed
over is the model's reading, log 1). -/
def Obligations.ClearingDoneOpensIntake : Prop :=
  (∀ s : State, exec .storeClearingDone s = .next { s with os := { s.os with clearing := false } }) ∧
  ∀ (s : State) (seq code : Byte) (p : List Byte) (i : Instr),
    (s.os.clearing = true ∨ s.mlu.address = 0) →
    (sequencedRow seq code p = some i ∨ i = .cancel seq p ∨ i = .nodeReset false seq p) →
    exec i s = .next s

/-! ### Raster input and lock states -/

/-- An input frame start in each lock state. In FREE_RUN it moves the lock state to ACQUIRING with cause
INPUT_FRAME, drops the candidate and starts the acquire timer 100 ms ahead; the output, the banks, the
store and the engine stay as they are (R38, R39, R43, R50). In ACQUIRING an ended frame that matches the
candidate enters LOCKED with cause MATCH, any other becomes the candidate and restarts the timer (R44). In
LOCKED a match keeps LOCKED and restarts the flywheel; any other frame gives ACQUIRING with cause MISMATCH,
an internal frame with the free-run parameters at once, and, with no command waiting, a lock_losses count
and the forward lists of the delay dropped and counted (R46, R53, R150). In HOLDOVER the first frame start
only sets watching; the next enters LOCKED, or gives ACQUIRING with cause MISMATCH, the output running on
(R49). The last part says what an ended frame of up to 4400 lines has measured (R39, R40). That the row
carries the clock in nanoseconds, and that it never runs back, is the model's choice (log 4), as is LOCKED
for a candidate irregular only by its facts (log 35); a duration outside R42's range is open (log 13). -/
def Obligations.FrameStartLeavesFreeRun : Prop :=
  (∀ (s : State) (bits : BitVec 31) (clock : Nat), s.resetLow = false → s.rtu.lock = .freeRun →
    bits.getLsbD 4 = true → ∃ t, exec (.inputLineStart bits clock) s = .next t ∧
      t.now = max s.now clock ∧ t.rtu.lock = .acquiring ∧ t.rtu.candidate = none ∧
      t.rtu.acquire = some (max s.now clock + 100000000) ∧ t.rtu.flywheel = none ∧
      t.rtu.frame = some (.start t.now) ∧ t.rtu.prev = s.rtu.cur ∧
      t.rtu.cur = some
        { kind := (match bits.toNat % 4 with
            | 1 => .active
            | 3 => .mgmt
            | _ => .blank)
          frameStart := true, words := [], overLong := false
          unclean := decide (bits.toNat % 4 = 0), forward := [] } ∧
      t.rtu.locked = s.rtu.locked ∧ t.rtu.measured = s.rtu.measured ∧
      t.rtu.params = s.rtu.params ∧ t.rtu.lockLosses = s.rtu.lockLosses ∧
      t.nq = (offer (.lock .freeRun .acquiring .inputFrame) s).nq ∧
      t.out = s.out ∧ t.ct = s.ct ∧ t.comp = s.comp ∧ t.sf = s.sf ∧ t.os = s.os ∧ t.ce = s.ce ∧
      t.mlu.address = s.mlu.address ∧ t.mlu.sequence = s.mlu.sequence) ∧
  (∀ (s : State) (bits : BitVec 31) (clock : Nat) (f : InputFrame), s.resetLow = false →
    bits.getLsbD 4 = true → TimingLaw s → s.endedFrame = some f →
    ∃ t, exec (.inputLineStart bits clock) s = .next t ∧ t.now = max s.now clock ∧
      (s.rtu.lock = .acquiring → f.Matches s.rtu.candidate → EntersLocked f s t) ∧
      (s.rtu.lock = .acquiring → ¬ f.Matches s.rtu.candidate →
        t.rtu = { s.rtu with
          candidate := some ⟨f.lines, f.active, f.firstActive, f.width, f.mgmt⟩
          acquire := some (t.now + 100000000)
          frame := some (.start t.now), prev := s.rtu.cur, cur := t.rtu.cur } ∧
        t.nq = s.nq ∧ t.mon = s.mon ∧ OutputRunsOn s t) ∧
      (s.rtu.lock = .locked → f.Matches s.rtu.locked → FlywheelRuns f t ∧
        t.rtu = { s.rtu with
          measured := t.rtu.measured, flywheel := t.rtu.flywheel
          frame := some (.start t.now), prev := s.rtu.cur, cur := t.rtu.cur
          params := t.rtu.params, lockLosses := t.rtu.lockLosses }) ∧
      (s.rtu.lock = .locked → ¬ f.Matches s.rtu.locked →
        t.rtu = { s.rtu with
          lock := .acquiring
          candidate := some ⟨f.lines, f.active, f.firstActive, f.width, f.mgmt⟩
          flywheel := none, acquire := some (t.now + 100000000), awaitSwitch := false
          frame := some (.start t.now), prev := t.rtu.prev, cur := t.rtu.cur
          params := t.rtu.params, lockLosses := t.rtu.lockLosses } ∧
        t.rtu.prev = s.rtu.cur.map (fun l => { l with forward := [] }) ∧
        t.out.running = true ∧ t.out.inputTimed = false ∧ t.out.line = 0 ∧
        t.out.startedAt = t.now ∧ t.out.counter = s.out.counter + 1 ∧
        t.out.geometry = s.rtu.params.geometry ∧ t.out.period = s.rtu.params.period ∧
        t.out.tx = startWord .blank true ::
          List.replicate s.rtu.params.geometry.width 0 ∧
        (s.ce.queue = [] → s.rtu.lockLosses ≤ 65535 → s.mlu.notForwarded ≤ 65535 →
          t.rtu.params = s.rtu.params ∧ t.rtu.lockLosses = min 65535 (s.rtu.lockLosses + 1) ∧
          t.mlu.notForwarded = min 65535 (s.mlu.notForwarded +
            ((s.rtu.prev.map fun l => l.forward.length).getD 0 +
              (s.rtu.cur.map fun l => l.forward.length).getD 0)) ∧
          QueuedNow (.lock .locked .acquiring .mismatch) t)) ∧
      (s.rtu.lock = .holdover → s.rtu.watching = true → f.Matches s.rtu.locked →
        EntersLocked f s t) ∧
      (s.rtu.lock = .holdover → s.rtu.watching = true → ¬ f.Matches s.rtu.locked →
        t.rtu = { s.rtu with
          lock := .acquiring
          candidate := some ⟨f.lines, f.active, f.firstActive, f.width, f.mgmt⟩
          acquire := some (t.now + 100000000), watching := false
          frame := some (.start t.now), prev := s.rtu.cur, cur := t.rtu.cur } ∧
        t.nq = (offer (.lock .holdover .acquiring .mismatch) s).nq ∧ OutputRunsOn s t)) ∧
  (∀ (s : State) (bits : BitVec 31) (clock : Nat), s.resetLow = false →
    bits.getLsbD 4 = true → s.rtu.lock = .holdover → s.rtu.watching = false →
    ∃ t, exec (.inputLineStart bits clock) s = .next t ∧ t.now = max s.now clock ∧
      t.rtu = { s.rtu with
        watching := true, frame := some (.start t.now), prev := s.rtu.cur, cur := t.rtu.cur } ∧
      t.nq = s.nq ∧ t.mon = s.mon ∧ OutputRunsOn s t) ∧
  ∀ (lines : List InputLine) (now : Nat) (f : InputFrame), lines.length ≤ 4400 →
    f = lines.foldl InputFrame.close (.start now) →
    f.startedAt = now ∧ f.lines = lines.length ∧
    f.active = lines.countP (fun l => decide (l.kind = .active)) ∧
    f.mgmt = lines.countP (fun l => decide (l.kind = .mgmt)) ∧
    (f.active = 0 → f.firstActive = 0 ∧ f.width = 0) ∧
    (∀ i l, lines[i]? = some l → l.kind = .active →
      (∀ k < i, ∀ m, lines[k]? = some m → m.kind ≠ .active) →
      f.firstActive = i ∧ f.width = l.words.length) ∧
    (f.contiguous = true ↔ ∀ (i j k : Nat) (li lj lk : InputLine), i < j → j < k → lines[i]? = some li →
      lines[j]? = some lj → lines[k]? = some lk → li.kind = .active → lk.kind = .active →
      lj.kind = .active) ∧
    (f.uniform = true ↔ ∀ l ∈ lines, l.kind = .active → l.words.length = f.width) ∧
    (f.clean = true ↔ ∀ l ∈ lines, l.overLong = false ∧ l.unclean = false)

/-- In LOCKED, the start of an input line that begins no frame. In a frame in input timing it starts the
output line two back: its kind and frame-start flag, as many pixel words as the RTU kept; on a BLANK line
those very words, on an ACTIVE line at each x the pixel composed at x and the active line index over the
input pixel at x, from the active bank, the cue mask after the line's cues and the buffer fetched for the
line (R51, R62, R63, R65, R67, R75, R87). What an MGMT line carries is AssemblyOrdersPackets'. Before the
switch, input line 2 of the frame that began at the entry to LOCKED starts the first locked output frame
with its line 0, and no other input line touches the output (R52). That the output holds the whole line at
its line start is the model's choice (log 18). -/
def Obligations.OutputLineIsTwoLinesBack : Prop :=
  (∀ (s : State) (bits : BitVec 31) (clock y : Nat) (a : InputLine), s.resetLow = false →
    s.rtu.lock = .locked → s.out.inputTimed = true → bits.getLsbD 4 = false →
    s.rtu.prev = some a → (a.kind = .mgmt → a.forward.flatten.length ≤ 3 * a.words.length) →
    y = (if a.frameStart then 0 else s.out.activeCount) →
    ∃ t, exec (.inputLineStart bits clock) s = .next t ∧ CarriesLine a a.frameStart y t ∧
      t.out.inputTimed = true ∧ t.out.line = (if a.frameStart then 0 else s.out.line + 1) ∧
      t.out.activeCount = (if a.kind = .active then y + 1 else y) ∧
      t.rtu.prev = s.rtu.cur ∧ t.rtu.lock = .locked ∧
      (a.kind = .active → a.frameStart = false → LineSettled y s t)) ∧
  ∀ (s : State) (bits : BitVec 31) (clock : Nat) (f : InputFrame) (a b : InputLine),
    s.resetLow = false → s.rtu.lock = .locked → s.out.inputTimed = false →
    bits.getLsbD 4 = false → s.rtu.prev = some a → s.rtu.cur = some b → s.rtu.frame = some f →
    ∃ t, exec (.inputLineStart bits clock) s = .next t ∧ t.rtu.lock = .locked ∧
      (f.lines ≠ 1 → t.out = s.out ∧ t.rtu.awaitSwitch = s.rtu.awaitSwitch) ∧
      ∀ g d, f.lines = 1 → s.rtu.awaitSwitch = true → s.rtu.locked = some g →
        s.rtu.measured = some d →
        (a.kind = .mgmt → a.forward.flatten.length ≤ 3 * a.words.length) →
        CarriesLine a true 0 t ∧ t.rtu.awaitSwitch = false ∧ t.out.inputTimed = true ∧
        t.out.running = true ∧ t.out.line = 0 ∧ t.out.startedAt = t.now ∧
        t.out.counter = s.out.counter + 1 ∧ t.out.geometry = g ∧ t.out.period = d

/-- Bit 31 of a word on the input port makes it a line start or a pixel word; an output start word of the
node before is a line of its kind and flag, an output pixel word that pixel. A pixel word is kept for its
line, and on an MGMT line its three octets, the low 8 bits of C0, C1 and C2, go to the parser in that
order; beyond the 4096th it is discarded and the line is over-long; before any line it has no effect (R38,
R138, R140, R195; the clock reading at a line start is log 4's). -/
def Obligations.PixelWordIsKept : Prop :=
  (∀ (s : State) (w : Word) (clock : Nat), s.pending = [] →
    step (s.receive w clock) =
      if w.getLsbD 31 = true then exec (.inputLineStart (w.setWidth 31) clock) s
      else exec (.inputPixelWord (w.setWidth 31)) s) ∧
  (∀ (kind : LineKind) (frameStart : Bool) (clock : Nat), ∃ bits,
    inputWordCommand (startWord kind frameStart) clock = .inputLineStart bits clock ∧
    lineOf bits = { kind := kind, frameStart := frameStart, words := [], overLong := false,
                    unclean := false, forward := [] }) ∧
  (∀ (p : Pixel) (clock : Nat), ∃ bits,
    inputWordCommand (pixelWord p) clock = .inputPixelWord bits ∧ bits.setWidth 30 = p) ∧
  (∀ c : Colour, c.Legal → areaOctets c.pixel = [octet c.c0, octet c.c1, octet c.c2]) ∧
  ∀ (s : State) (bits : BitVec 31), s.resetLow = false →
    (s.rtu.cur = none → exec (.inputPixelWord bits) s = .next s) ∧
    ∀ l : InputLine, s.rtu.cur = some l →
      (l.words.length < 4096 → l.kind ≠ .mgmt → exec (.inputPixelWord bits) s =
        .next { s with rtu := { s.rtu with
          cur := some { l with words := l.words ++ [bits.setWidth 30] } } }) ∧
      (l.words.length < 4096 → l.kind = .mgmt → exec (.inputPixelWord bits) s =
        .next ((areaOctets (bits.setWidth 30)).foldl feedOctet { s with rtu := { s.rtu with
          cur := some { l with words := l.words ++ [bits.setWidth 30] } } })) ∧
      (4096 ≤ l.words.length → exec (.inputPixelWord bits) s =
        .next { s with rtu := { s.rtu with cur := some { l with overLong := true } } })

/-- The acquire timer's expiry in ACQUIRING: FREE_RUN with cause ACQUIRE_TIMEOUT, the candidate absent,
a frame under measurement incomplete, and nothing else (R42, R45, R50, R123). That the event moves the
clock to its due time is the model's choice (log 4). -/
def Obligations.AcquireExpiryReturnsToFreeRun : Prop :=
  ∀ (s : State) (due : Nat), s.resetLow = false → s.rtu.lock = .acquiring →
    s.rtu.acquire = some due → exec .acquireTimerExpiry s =
      .next (offer (.lock .acquiring .freeRun .acquireTimeout) { s with
        now := max s.now due
        rtu := { s.rtu with
          lock := .freeRun, candidate := none, flywheel := none, acquire := none,
          watching := false, frame := none }
        mon := { s.mon with complete := s.mon.complete && !s.mon.measuring } })

/-- The flywheel's expiry in LOCKED: HOLDOVER, or FREE_RUN under a holdover limit of 0; lock_losses
counts, and an internal frame starts at once in the holdover geometry, or in the free-run one (R47,
R53, R54, R58, R190). The queue is taken as empty, so that no command executes in the same step; nothing
is claimed of the LOCK notification and of dropped forward lists. That the event moves the clock to its
due time is the model's choice (log 4). -/
def Obligations.FlywheelExpiryLeavesLocked : Prop :=
  ∀ (s : State) (due : Nat) (g : Geometry) (d : Nat), s.resetLow = false →
    s.rtu.lock = .locked → s.rtu.flywheel = some due → s.rtu.locked = some g →
    s.rtu.measured = some d → s.ce.queue = [] → s.rtu.lockLosses ≤ 65535 →
    ∃ t, exec .flywheelExpiry s = .next t ∧ t.now = max s.now due ∧
      t.rtu.flywheel = none ∧ t.rtu.acquire = none ∧ t.rtu.watching = false ∧
      t.rtu.awaitSwitch = false ∧ t.rtu.lockLosses = min 65535 (s.rtu.lockLosses + 1) ∧
      t.rtu.locked = some g ∧ t.rtu.measured = some d ∧ t.rtu.params = s.rtu.params ∧
      t.out.running = true ∧ t.out.inputTimed = false ∧ t.out.line = 0 ∧
      t.out.startedAt = t.now ∧ t.out.counter = s.out.counter + 1 ∧
      (if s.rtu.params.holdoverLimit = 0 then
        t.rtu.lock = .freeRun ∧ t.out.geometry = s.rtu.params.geometry ∧
          t.out.period = s.rtu.params.period
      else
        t.rtu.lock = .holdover ∧ t.rtu.holdoverCount = 0 ∧ t.out.period = d ∧
          t.out.geometry = { g with mgmt := min g.mgmt (g.firstActive - 1) })

/-- In HOLDOVER the internal frame start that reaches the holdover limit makes the state FREE_RUN with
cause HOLDOVER_LIMIT and starts a frame in the free-run geometry; the LOCK notification carries that
frame's number, unless it is masked or the queue is full (R48, R50, R54). HOLDOVER_LIMIT and
INTERNAL_LINE_START name the same occurrence (log 6). -/
def Obligations.HoldoverLimitEndsHoldover : Prop :=
  ∀ s : State, s.resetLow = false → s.rtu.lock = .holdover → s.out.inputTimed = false →
    (s.out.running = false ∨ s.out.geometry.total ≤ s.out.line + 1) →
    s.rtu.params.holdoverLimit ≤ s.rtu.holdoverCount + 1 → s.rtu.holdoverCount ≤ 254 →
    s.ce.queue = [] →
    ∃ t, exec .holdoverLimit s = .next t ∧ exec .internalLineStart s = .next t ∧
      t.rtu.lock = .freeRun ∧ t.rtu.holdoverCount = s.rtu.holdoverCount + 1 ∧
      t.rtu.watching = false ∧ t.rtu.lockLosses = s.rtu.lockLosses ∧
      t.out.running = true ∧ t.out.inputTimed = false ∧ t.out.line = 0 ∧
      t.out.counter = s.out.counter + 1 ∧ t.out.geometry = s.rtu.params.geometry ∧
      t.out.period = s.rtu.params.period ∧
      (s.nq.mask.getLsbD 0 = false ∨ 16 ≤ t.nq.entries.length ∨
        ∃ n, ⟨.lock .holdover .freeRun .holdoverLimit, t.out.counter, n⟩ ∈ t.nq.entries)

/-- A BLANK line of an internal frame, away from the activation event and the frame end: the line starts at
its place in the frame period with width black words, and nothing else changes. A BLANK line before the
first ACTIVE line raises the activation event: the active bank becomes the pending bank if a commit is
requested and is left as it is otherwise, the cue mask is cleared, the fetch of active line 0 starts
and RMON begins to measure (R30, R32, R54 to R56, R62, R76, R81, R123). On an ACTIVE line the word at each
x is the pixel composed at x and the active line index over the slate colour in force (R62, R63, R67). What
an MGMT line carries is AssemblyOrdersPackets'. The model's choices: the event moves the clock to its due time (log 4), and the output
holds the whole line at its start (log 18). -/
def Obligations.InternalLinesStart : Prop :=
  (∀ s : State, s.resetLow = false → s.out.running = true → s.out.inputTimed = false →
     s.out.line + 1 < s.out.geometry.total → s.out.geometry.mgmt < s.out.line + 1 →
     (s.out.line + 1 < s.out.geometry.firstActive ∨
       s.out.geometry.firstActive + s.out.geometry.active ≤ s.out.line + 1) →
     s.out.line + 2 ≠ s.out.geometry.firstActive →
     (s.out.activeCount = 0 ∨ s.out.frameEnded = true) →
     exec .internalLineStart s = .next { s with
       now := max s.now (s.out.startedAt +
         (s.out.line + 1) * s.out.period / s.out.geometry.total * 1000)
       out := { s.out with
         line := s.out.line + 1
         tx := startWord .blank false :: List.replicate s.out.geometry.width 0 } }) ∧
  (∀ s : State, s.resetLow = false → s.out.running = true → s.out.inputTimed = false →
    TimingLaw s → s.out.line + 1 < s.out.geometry.total →
    s.out.geometry.firstActive ≤ s.out.line + 1 →
    s.out.line + 1 < s.out.geometry.firstActive + s.out.geometry.active →
    ∃ t, exec .internalLineStart s = .next t ∧ LineSettled s.out.activeCount s t ∧
      t.ce = s.ce ∧ t.mlu = s.mlu ∧ t.rtu = s.rtu ∧ t.mon = s.mon ∧
      t.out = { s.out with
        line := s.out.line + 1, activeCount := s.out.activeCount + 1
        tx := startWord .active false :: (List.range s.out.geometry.width).map fun x =>
          pixelWord (composePixel t x s.out.activeCount s.comp.slate).pixel }) ∧
  ∀ s : State, s.resetLow = false → s.out.running = true → s.out.inputTimed = false →
    s.out.line + 2 = s.out.geometry.firstActive → s.out.geometry.mgmt < s.out.line + 1 →
    s.out.line + 1 < s.out.geometry.total → s.out.activeCount = 0 → s.out.activated = false →
    ∃ t, exec .internalLineStart s = .next t ∧ t.out.activated = true ∧
      t.out.line = s.out.line + 1 ∧
      t.ct.activeSet =
        (if s.ct.editOpen = false ∧ s.ct.request.isSome = true then s.ct.pendingSet
          else s.ct.activeSet) ∧
      t.comp.cueMask = 0 ∧ t.comp.slate = s.comp.slate ∧
      t.sf.filling.owner = some 0 ∧ t.sf.fetch.isSome = true ∧
      t.mon.measuring = true ∧ t.mon.complete = false

/-! ### Edits and commits -/

/-- EDIT_OPEN in its four cases (R22, R23). -/
def Obligations.EditOpenOutcomes : Prop :=
  ∀ (s : State) (seq n : Byte), Ready seq s →
    (s.ct.editOpen = true →
      exec (.editOpen seq [n]) s = .next (s.answered seq 0x20 .alreadyOpen [])) ∧
    (s.ct.editOpen = false → (n.toNat < 1 ∨ 64 < n.toNat) →
      exec (.editOpen seq [n]) s = .next (s.answered seq 0x20 .badField [0])) ∧
    (s.ct.editOpen = false → 1 ≤ n.toNat → n.toNat ≤ 64 →
      (s.ct.request = none → exec (.editOpen seq [n]) s =
        .next (State.answered { s with ct := { s.ct with editOpen := true, timer := n.toNat } }
          seq 0x20 .ok [])) ∧
      (s.ct.request = some .reset →
        exec (.editOpen seq [n]) s = .next (s.executing seq 0x20 [n] .resetCommit)))

/-- EDIT_CLOSE in its three modes with the edit OPEN (R24 to R27). -/
def Obligations.EditCloseOutcomes : Prop :=
  ∀ (s : State) (seq : Byte), Ready seq s → s.ct.editOpen = true → s.ct.request = none →
    exec (.editCloseDiscard seq) s =
      .next (State.answered { s with ct := { s.ct with
        pendingSet := s.ct.activeSet, editOpen := false, timer := 0 } } seq 0x21 .ok []) ∧
    exec (.editCloseKeep seq) s =
      .next (State.answered { s with ct := { s.ct with editOpen := false, timer := 0 } }
        seq 0x21 .ok []) ∧
    exec (.editCloseCommit seq) s =
      .next (State.executing { s with ct := { s.ct with
        editOpen := false, timer := 0, request := some .command } } seq 0x21 [2] .commit)

/-- COMMIT, sequenced and broadcast, in either edit state: OPEN refuses the one and skips the other with
COMMIT_SKIPPED; CLOSED sets the request, or leaves one of origin RESET, and the command waits (R21,
R28, R29). -/
def Obligations.CommitOutcomes : Prop :=
  ∀ (s : State) (seq : Byte), Ready seq s →
    (s.ct.editOpen = true →
      exec (.sequencedCommit seq []) s = .next (s.answered seq 0x22 .editIsOpen []) ∧
      exec (.broadcastCommit []) s = .next (offer .commitSkipped s)) ∧
    (s.ct.editOpen = false → ∀ o, o = s.ct.request.getD .command →
      exec (.sequencedCommit seq []) s =
        .next (State.executing { s with ct := { s.ct with request := some o } }
          seq 0x22 [] .commit) ∧
      exec (.broadcastCommit []) s = .next { s with
        ct := { s.ct with request := some o }
        ce := { s.ce with exec := some ⟨⟨false, 0, 0x22, []⟩, .commit⟩ } })

/-- An activation event with a commit requested, behind which no command waits: the active bank becomes
the pending bank, the request absent, a sequenced commit command is answered OK with the frame number,
and a waiting EDIT_OPEN opens its edit (R23, R30, R32, R34). -/
def Obligations.CommitIsAppliedAtActivation : Prop :=
  ∀ (s : State) (q : Queued) (o : Origin), s.ct.editOpen = false → s.ct.request = some o →
    s.ce.queue = [] → q.sequenced = true →
    (s.ce.exec = some ⟨q, .commit⟩ →
      (activationEvent s).ct =
        { s.ct with activeSet := s.ct.pendingSet, request := none } ∧
      (activationEvent s).ce =
        (s.completed q .ok (toOctets 2 s.out.counter.toNat)).ce) ∧
    (s.ce.exec = some ⟨q, .resetCommit⟩ →
      (activationEvent s).ct =
        { s.ct with activeSet := s.ct.pendingSet, request := none, editOpen := true,
                    timer := fieldAt q.payload 0 1 } ∧
      (activationEvent s).ce = (s.completed q .ok []).ce)

/-- EDIT_EXPIRY, the last count of an open edit's timer: the pending bank becomes the active bank, the
edit is CLOSED and EDIT_EXPIRED is offered. REPORT_COUNTDOWN with the countdown at its last count and an
interval set: MEASURE is offered with the record's frame number and the countdown reloads (R33, R134;
that the rows are these occurrences taken alone is the model's reading, log 6). -/
def Obligations.ExpiriesActAtLastCount : Prop :=
  (∀ s : State, s.resetLow = false → s.ct.editOpen = true → s.ct.timer = 1 →
     exec .editExpiry s = .next (offer .editExpired
       { s with ct := { s.ct with pendingSet := s.ct.activeSet, editOpen := false, timer := 0 } })) ∧
  (∀ (s : State) (i : Fin 16) (m : Measurement) (r : Monitor), s.resetLow = false →
    r = s.mon.monitor i → r.record = some m → r.countdown = 1 → 1 ≤ r.interval →
    exec (.reportCountdown i) s = .next (offerWith m.frame (.measure i m) { s with
      mon := { s.mon with
        monitors := s.mon.monitors.set i { r with countdown := r.interval } } }))

/-- With the edit CLOSED, SET_REGION, SET_PALETTE, SET_CUE of an admitted length and EDIT_CLOSE are
refused NOT_OPEN whatever they carry, and nothing outside the engine changes (R11, R20, R24). -/
def Obligations.ClosedEditRefuses : Prop :=
  ∀ (s : State) (seq : Byte) (p : List Byte), Ready seq s → s.ct.editOpen = false →
    (p.length = 34 → exec (.setRegion seq p) s = .next (s.answered seq 0x23 .notOpen [])) ∧
    (∀ n, 1 ≤ n → n ≤ 32 → p.length = 2 + 5 * n →
      exec (.setPalette seq p) s = .next (s.answered seq 0x24 .notOpen [])) ∧
    (p.length = 7 → exec (.setCue seq p) s = .next (s.answered seq 0x25 .notOpen [])) ∧
    exec (.editCloseDiscard seq) s = .next (s.answered seq 0x21 .notOpen []) ∧
    exec (.editCloseKeep seq) s = .next (s.answered seq 0x21 .notOpen []) ∧
    exec (.editCloseCommit seq) s = .next (s.answered seq 0x21 .notOpen [])

/-! ### Composition set -/

/-- SET_REGION with the edit OPEN stores every legal record whole at its index of the pending bank and
changes no other record. Whatever 34 octets it carries, it is answered BAD_FIELD with an offset of its
payload and changes nothing, or it stores one legal record at an index 0..15 (R5, R6, R11, R12). -/
def Obligations.SetRegionStoresWholeRecord : Prop :=
  (∀ (s : State) (seq : Byte) (i : Nat) (r : Region), Ready seq s → s.ct.editOpen = true →
     i < 16 → r.Legal →
     exec (.setRegion seq (octet i :: r.octets)) s =
       .next (State.answered { s with ct := { s.ct with pendingSet :=
         { s.ct.pendingSet with regions := s.ct.pendingSet.regions.set i r } } } seq 0x23 .ok [])) ∧
  ∀ (s : State) (seq : Byte) (p : List Byte), Ready seq s → s.ct.editOpen = true →
    p.length = 34 →
    (∃ o : Byte, o.toNat < 34 ∧
      exec (.setRegion seq p) s = .next (s.answered seq 0x23 .badField [o])) ∨
    ∃ r : Region, r.Legal ∧ fieldAt p 0 1 < 16 ∧ exec (.setRegion seq p) s =
      .next (State.answered { s with ct := { s.ct with pendingSet :=
        { s.ct.pendingSet with
          regions := s.ct.pendingSet.regions.set (fieldAt p 0 1) r } } } seq 0x23 .ok [])

/-- SET_PALETTE with the edit OPEN replaces a run of 1..32 legal entries and keeps the rest (R13). -/
def Obligations.SetPaletteStoresRun : Prop :=
  ∀ (s : State) (seq : Byte) (first : Nat) (es : List PaletteEntry), Ready seq s →
    s.ct.editOpen = true → 1 ≤ es.length → es.length ≤ 32 → first + es.length ≤ 256 →
    (∀ e ∈ es, e.Legal) → s.ct.pendingSet.palette.length = 256 →
    exec (.setPalette seq (octet first :: octet es.length :: es.flatMap PaletteEntry.octets)) s =
      .next (State.answered { s with ct := { s.ct with pendingSet :=
        { s.ct.pendingSet with
          palette := s.ct.pendingSet.palette.take first ++ es
            ++ s.ct.pendingSet.palette.drop (first + es.length) } } } seq 0x24 .ok [])

/-- SET_CUE with the edit OPEN stores every legal cue record, and SET_FENCE in any state every legal
fence record, whole at its index; nothing else changes (R14, R105). -/
def Obligations.SetCueAndFenceStoreRecord : Prop :=
  ∀ (s : State) (seq : Byte) (i : Nat), Ready seq s →
    (∀ c : Cue, s.ct.editOpen = true → i < 8 → c.Legal →
      exec (.setCue seq (octet i :: c.octets)) s =
        .next (State.answered { s with ct := { s.ct with pendingSet :=
          { s.ct.pendingSet with cues := s.ct.pendingSet.cues.set i c } } } seq 0x25 .ok [])) ∧
    (∀ f : Fence, i < 4 → f.Legal →
      exec (.setFence seq (octet i :: f.octets)) s =
        .next (State.answered { s with os := { s.os with fences := s.os.fences.set i f } }
          seq 0x34 .ok []))

/-- The reads of either bank answer the records as held and change nothing outside the engine: 33
octets of a region, 5 of each palette entry in ascending order, 6 of a cue (R15 to R18). -/
def Obligations.BankReadsAnswerRecords : Prop :=
  ∀ (s : State) (seq : Byte) (active : Bool) (bank : CompositionSet), Ready seq s →
    bank = (if active then s.ct.activeSet else s.ct.pendingSet) → bank.Legal →
    (∀ i < 16, ∀ r ∈ bank.regions[i]?,
      exec (.readRegion seq [octet (flagCode active), octet i]) s =
        .next (s.answered seq 0x26 .ok r.octets)) ∧
    (∀ first n, 1 ≤ n → n ≤ 32 → first + n ≤ 256 →
      exec (.readPalette seq [octet (flagCode active), octet first, octet n]) s =
        .next (s.answered seq 0x27 .ok
          (((bank.palette.drop first).take n).flatMap PaletteEntry.octets))) ∧
    (∀ i < 8, ∀ c ∈ bank.cues[i]?,
      exec (.readCue seq [octet (flagCode active), octet i]) s =
        .next (s.answered seq 0x28 .ok c.octets))

/-! ### Engine -/

/-- A sequenced command of a payload length that its code does not admit is answered BAD_LENGTH, one of a
code that names no command UNKNOWN_CODE whatever its length, and nothing outside the engine changes; so
when its packet is handed to intake, EDIT_CLOSE among them, and so by its own row (R170). -/
def Obligations.WrongLengthIsRefused : Prop :=
  ∀ (s : State) (seq code : Byte) (p : List Byte), Ready seq s → code ≠ 0x70 → code ≠ 0x71 →
    p.length ∉ payloadLengths code →
    ∀ status, status = (if payloadLengths code = [] then Status.unknownCode else .badLength) →
      intakeAddressed seq code p s = s.answered seq code status [] ∧
      ∀ i, sequencedRow seq code p = some i → exec i s = .next (s.answered seq code status [])

/-- A new sequenced command that finds the engine busy, with a place and a slot free, only joins the
queue and takes a reservation (R161, R162, R169). -/
def Obligations.NewCommandWaitsWhileBusy : Prop :=
  ∀ (s : State) (seq code : Byte) (p : List Byte) (i : Instr), s.resetLow = false →
    s.os.clearing = false → 1 ≤ s.mlu.address → s.mlu.address ≤ 30 →
    (s.ce.exec.isSome = true ∨ s.os.op.isSome = true) →
    s.ce.queue.length < 8 → s.ce.sequencedResponses + s.ce.reservations < 8 →
    newSequence s.ce.lastSeq seq = true → sequencedRow seq code p = some i →
    exec i s = .next (s.waiting ⟨true, seq, code, p⟩)

/-- READ_INFO answers the identity and capacities and changes nothing outside the engine (R192, R198).
COMMAND_BEGIN, with no command in execution and the record empty: the head of the queue, whatever it is
and whatever stands behind it, leaves the queue and is executed; if it stays in execution nothing more
begins, and if it is done it is answered and the next one begins. A command that waits alone has the
effect its row has when it is handed over. With a command in execution or the record not empty, nothing
begins (R169). The rows that free the engine begin the next command themselves, so that no run leaves
this row anything to do (the model's reading, log 2). -/
def Obligations.CommandsBeginInTurn : Prop :=
  (∀ (s : State) (seq : Byte), Ready seq s → exec (.readInfo seq []) s =
     .next (s.answered seq 0x01 .ok
       [0x47, 0x04, 0x16, 0x01, 0x10, 0x01, 0x00, 0x08, 0x04, 0x10, 0x00, 0x00, 0x20, 0x00, 0x08,
         0x08, 0x10, 0x08])) ∧
  (∀ (s : State) (seq : Byte), s.resetLow = false → s.ce.exec = none → s.os.op = none →
    s.ce.queue = [⟨true, seq, 0x01, []⟩] →
    exec .commandBegin s = .next (State.completed { s with ce := { s.ce with queue := [] } }
      ⟨true, seq, 0x01, []⟩ .ok
      [0x47, 0x04, 0x16, 0x01, 0x10, 0x01, 0x00, 0x08, 0x04, 0x10, 0x00, 0x00, 0x20, 0x00, 0x08,
        0x08, 0x10, 0x08])) ∧
  (∀ (s u t : State) (q : Queued) (rest : List Queued), s.resetLow = false → s.ce.exec = none →
    s.os.op = none → s.ce.queue = q :: rest →
    u = { s with ce := { s.ce with queue := rest } } →
    (q.sequenced = true →
      (∀ p, runSequenced q.code q.payload u = (t, .stays p) →
        exec .commandBegin s = .next { t with ce := { t.ce with exec := some ⟨q, p⟩ } }) ∧
      ∀ status data, runSequenced q.code q.payload u = (t, .done status data) →
        exec .commandBegin s = exec .commandBegin (t.completed q status data)) ∧
    (q.sequenced = false →
      (∀ p, runBroadcastCommit q.payload u = (t, some p) →
        exec .commandBegin s = .next { t with ce := { t.ce with exec := some ⟨q, p⟩ } }) ∧
      (runBroadcastCommit q.payload u = (t, none) →
        exec .commandBegin s = exec .commandBegin t))) ∧
  (∀ (s : State) (seq code : Byte) (p : List Byte) (i : Instr), Ready seq s →
    sequencedRow seq code p = some i →
    exec .commandBegin (s.waiting ⟨true, seq, code, p⟩) = exec i s) ∧
  ∀ s : State, (s.ce.exec.isSome = true ∨ s.os.op.isSome = true ∨ s.ce.queue = []) →
    exec .commandBegin s = .next s

/-- Intake of a sequenced command: new while the last accepted sequence is ABSENT; else, by its distance d
ahead of the last accepted sequence a, new for 1..16; replayed if cached, else dropped and counted if
queued or in execution, else STALE, for 0 and 241..255; STALE with data a for 17..240. A new command
without a place and a slot, or an answer without a slot, is discarded and counted (R161 to R165,
R174). -/
def Obligations.IntakeFollowsWindow : Prop :=
  (∀ (s : State) (q : Queued), s.ce.lastSeq = none → q.sequenced = true →
    intakeSequenced q s =
      if s.ce.queue.length < 8 ∧ s.ce.sequencedResponses + s.ce.reservations < 8 then s.waiting q
      else discardCommand s) ∧
  ∀ (s : State) (q : Queued) (a : Byte) (d : Nat), s.ce.lastSeq = some a →
    d = (q.seq - a).toNat → q.sequenced = true →
    (1 ≤ d → d ≤ 16 → intakeSequenced q s =
      if s.ce.queue.length < 8 ∧ s.ce.sequencedResponses + s.ce.reservations < 8 then s.waiting q
      else discardCommand s) ∧
    (17 ≤ d → d ≤ 240 → intakeSequenced q s =
      if s.ce.sequencedResponses + s.ce.reservations < 8 then
        { s with ce := { s.ce with responses := s.ce.responses ++
          [⟨q.seq, q.code, .stale, false, [a], false, s.mlu.assembled⟩] } }
      else discardCommand s) ∧
    ((d = 0 ∨ 241 ≤ d) → ∀ e, (s.ce.cache.reverse.find? fun e => decide (e.seq = q.seq)) = some e →
      intakeSequenced q s =
        if s.ce.sequencedResponses + s.ce.reservations < 8 then
          { s with ce := { s.ce with responses := s.ce.responses ++
            [⟨e.seq, e.code, e.status, true, e.data, false, s.mlu.assembled⟩] } }
        else discardCommand s) ∧
    ((d = 0 ∨ 241 ≤ d) → (∀ e ∈ s.ce.cache, e.seq ≠ q.seq) →
      ((∃ w ∈ s.ce.queue, w.sequenced = true ∧ w.seq = q.seq) ∨
        ∃ e ∈ s.ce.exec, e.command.sequenced = true ∧ e.command.seq = q.seq) →
      intakeSequenced q s = { s with ce := { s.ce with duplicates := countUp s.ce.duplicates } }) ∧
    ((d = 0 ∨ 241 ≤ d) → (∀ e ∈ s.ce.cache, e.seq ≠ q.seq) →
      (∀ w ∈ s.ce.queue, w.sequenced = true → w.seq ≠ q.seq) →
      (∀ e ∈ s.ce.exec, e.command.sequenced = true → e.command.seq ≠ q.seq) →
      intakeSequenced q s =
        if s.ce.sequencedResponses + s.ce.reservations < 8 then
          { s with ce := { s.ce with responses := s.ce.responses ++
            [⟨q.seq, q.code, .stale, false, [a], false, s.mlu.assembled⟩] } }
        else discardCommand s)

/-- An addressed CANCEL: with nothing to end it answers OK with count 0 in the immediate slot; with a
sequenced commit command waiting it withdraws a COMMAND request and keeps a RESET one, empties the
queue, and answers CANCELLED for the command in execution and each removed sequenced command, in
order, then OK with their count (R35, R175, R176); a removed write command carries the counts 0 and 0
(R173, R198; that nothing counts as written or clipped is the model's reading, log 34). With a write burst
of a store operation granted it waits for the burst: the operation is then answered CANCELLED with the
octets written and clipped, which take in every step behind that burst where the fences clip them whole,
so that the counts of an operation cancelled at its last burst cover its footprint (R104, R117, R177;
with a burst still to come, the counts are those of the bursts done, log 33). -/
def Obligations.CancelEndsWaitingCommands : Prop :=
  ∀ (s : State) (seq : Byte), s.resetLow = false → s.os.clearing = false → 1 ≤ s.mlu.address →
    s.mlu.address ≤ 30 → s.ce.slot = .free →
    (s.ce.exec = none → s.ce.queue = [] → exec (.cancel seq []) s = .next { s with ce := { s.ce with
      slot := .filled, cancel := none
      responses := s.ce.responses ++
        [⟨seq, 0x70, .ok, false, [0], true, s.mlu.assembled⟩] } }) ∧
    (∀ q : Queued, s.ce.exec = some ⟨q, .commit⟩ → q.sequenced = true →
      ∃ t, exec (.cancel seq []) s = .next t ∧ t.ce.exec = none ∧ t.ce.queue = [] ∧
        t.ce.slot = .filled ∧ t.ce.lastSeq = s.ce.lastSeq ∧
        t.ce.responses = s.ce.responses ++
          [⟨q.seq, q.code, .cancelled, false, [], false, s.mlu.assembled⟩] ++
          (s.ce.queue.filter Queued.sequenced).map (fun w =>
            ⟨w.seq, w.code, .cancelled, false,
              if w.code.toNat ∈ [0x30, 0x31, 0x32] then [0, 0, 0, 0, 0, 0] else [],
              false, s.mlu.assembled⟩) ++
          [⟨seq, 0x70, .ok, false, [octet (1 + (s.ce.queue.filter Queued.sequenced).length)],
            true, s.mlu.assembled⟩] ∧
        t = { s with
          ct := { s.ct with
            request := if s.ct.request = some .command then none else s.ct.request }
          ce := t.ce }) ∧
    ∀ (op : StoreOp) (q : Queued) (r : BurstRequest) (discard : Bool) (clipped : Nat),
      s.ce.exec = some ⟨q, .store⟩ → q.sequenced = true → s.ce.queue = [] → s.os.op = some op →
      op.running = true → op.ending = false → op.params.writes = true →
      s.os.busy = some ⟨.ce, r, discard⟩ → r.write = true → r.addr + r.len ≤ 1048576 →
      op.next < op.params.steps → (r.addr, r.len) = op.params.targetRun op.next →
      clipped = (List.range r.len).countP (fun k => clippedBy op.fences (r.addr + k)) →
      ∃ t u, exec (.cancel seq []) s = .next t ∧ exec .ceBurstComplete t = .next u ∧
        t.ce.responses = s.ce.responses ∧ t.ce.slot = .reserved ∧ u.os.op = none ∧
        u.ce.exec = none ∧ u.ce.slot = .filled ∧
        u.ce.responses = s.ce.responses ++
          [⟨q.seq, q.code, .cancelled, false,
              toOctets 3 (op.written + (r.len - clipped)) ++
                toOctets 3 (op.clipped + clipped +
                  if ∀ n < op.params.steps, op.next < n → ∀ k < (op.params.targetRun n).2,
                      clippedBy op.fences ((op.params.targetRun n).1 + k) = true then
                    (((List.range op.params.steps).filter (fun n => decide (op.next < n))).map
                      fun n => (op.params.targetRun n).2).sum
                  else 0),
              false, s.mlu.assembled⟩,
            ⟨seq, 0x70, .ok, false, [1], true, s.mlu.assembled⟩]

/-- NODE_RESET with no store operation in progress, broadcast and addressed: every block takes its
NODE_RESET values, the active bank, the lock state, the output and the store are kept, and the
addressed one is answered OK in the emptied response queue (R36, R61, R95, R118, R137, R158, R178 to
R180, R189). -/
def Obligations.NodeResetLeavesDefaults : Prop :=
  ∀ (s t : State) (seq : Byte), s.resetLow = false → s.os.clearing = false → s.os.op = none →
    t = { s with
      ct := { s.ct with pendingSet := .default, editOpen := false, timer := 0, request := some .reset }
      rtu := { s.rtu with params := .default, lockLosses := 0 }
      sf := { s.sf with underruns := List.replicate 16 0, reported := List.replicate 16 false }
      os := { s.os with fences := List.replicate 4 .default }
      mon := .initial
      mlu := { s.mlu with crcErrors := 0, framingErrors := 0, notForwarded := 0, misaddressed := 0 }
      ce := .initial
      nq := .initial } →
    exec (.nodeReset true seq []) s = .next t ∧
    (1 ≤ s.mlu.address → s.mlu.address ≤ 30 → s.ce.slot = .free → exec (.nodeReset false seq []) s = .next { t with ce := { t.ce with
      slot := .filled
      responses := [⟨seq, 0x71, .ok, false, [], true, s.mlu.assembled⟩] } })

/-- READ_STATUS answers 71 octets that hold the state at execution, its own reservation counted, and
changes nothing outside the engine (R193, R194, R198). -/
def Obligations.ReadStatusAnswersState : Prop :=
  ∀ (s : State) (seq : Byte), Ready seq s → CounterLaw s → s.ct.timer ≤ 64 →
    ∃ data : List Byte, exec (.readStatus seq []) s = .next (s.answered seq 0x02 .ok data) ∧
      data.length = 71 ∧ fieldAt data 0 1 = s.rtu.lock.code ∧
      (s.out.geometry.total < 65536 → fieldAt data 1 2 = s.out.geometry.total) ∧
      (s.out.geometry.active < 65536 → fieldAt data 3 2 = s.out.geometry.active) ∧
      (s.out.geometry.firstActive < 65536 → fieldAt data 5 2 = s.out.geometry.firstActive) ∧
      (s.out.geometry.width < 65536 → fieldAt data 7 2 = s.out.geometry.width) ∧
      (s.out.geometry.mgmt < 256 → fieldAt data 9 1 = s.out.geometry.mgmt) ∧
      fieldAt data 10 2 = s.out.counter.toNat ∧ fieldAt data 12 1 = flagCode s.ct.editOpen ∧
      fieldAt data 13 1 = s.ct.timer ∧ fieldAt data 14 1 = flagCode s.ct.request.isSome ∧
      fieldAt data 15 1 = 0 ∧ fieldAt data 16 1 = s.ce.reservations + 1 ∧
      fieldAt data 17 1 = s.ce.sequencedResponses ∧ fieldAt data 18 1 = s.ce.slot.code ∧
      fieldAt data 19 1 = s.nq.entries.length ∧ fieldAt data 20 1 = s.nq.lost ∧
      fieldAt data 21 2 = s.nq.mask.toNat ∧ fieldAt data 23 2 = s.mlu.crcErrors ∧
      fieldAt data 25 2 = s.mlu.framingErrors ∧ fieldAt data 27 2 = s.mlu.notForwarded ∧
      fieldAt data 29 2 = s.mlu.misaddressed ∧ fieldAt data 31 2 = s.ce.discarded ∧
      fieldAt data 33 2 = s.ce.duplicates ∧ fieldAt data 35 2 = s.rtu.lockLosses ∧
      fieldAt data 37 2 = s.nq.lostTotal ∧
      ∀ i < 16, fieldAt data (39 + 2 * i) 2 = s.sf.underruns.getD i 0

/-- CLEAR_COUNTERS sets the 24 counters to 0, is answered OK, and changes nothing else. SET_NOTIFY_MASK
replaces the mask for every value with bits 9..15 clear and refuses every other value with BAD_FIELD at
offset 0. SET_REPORT sets interval and countdown of its region, or is refused with BAD_FIELD at the
index (R133, R188, R191). -/
def Obligations.CountersMaskAndReportsAreSet : Prop :=
  (∀ (s : State) (seq : Byte), Ready seq s → exec (.clearCounters seq []) s =
     .next (State.answered { s with
       mlu := { s.mlu with crcErrors := 0, framingErrors := 0, notForwarded := 0, misaddressed := 0 }
       ce := { s.ce with discarded := 0, duplicates := 0 }
       rtu := { s.rtu with lockLosses := 0 }
       nq := { s.nq with lostTotal := 0 }
       sf := { s.sf with underruns := List.replicate 16 0 } } seq 0x03 .ok [])) ∧
  (∀ (s : State) (seq : Byte) (v : Nat), Ready seq s →
     (v < 512 → exec (.setNotifyMask seq (toOctets 2 v)) s =
       .next (State.answered { s with nq := { s.nq with mask := BitVec.ofNat 9 v } }
         seq 0x04 .ok [])) ∧
     (512 ≤ v → v < 65536 → exec (.setNotifyMask seq (toOctets 2 v)) s =
       .next (s.answered seq 0x04 .badField [0]))) ∧
  ∀ (s : State) (seq i n : Byte), Ready seq s →
    (i.toNat ≤ 15 → exec (.setReport seq [i, n]) s =
      .next (State.answered { s with mon := { s.mon with
        monitors := s.mon.monitors.set i.toNat { s.mon.monitor i.toNat with
          interval := n.toNat, countdown := n.toNat } } } seq 0x41 .ok [])) ∧
    (16 ≤ i.toNat → exec (.setReport seq [i, n]) s =
      .next (s.answered seq 0x41 .badField [0]))

/-- SET_TIMING stores every legal set of the eight parameters whole; any 17 octets that do not encode such
a set are refused with BAD_FIELD and change nothing (R59). What is stored shapes the next internal frame
that starts in FREE_RUN or ACQUIRING, and in LOCKED or HOLDOVER the layout of no frame (R54, R60). -/
def Obligations.SetTimingStoresParameters : Prop :=
  (∀ (s : State) (seq : Byte), Ready seq s →
    (∀ f : FreeRun, f.Legal → exec (.setTiming seq f.octets) s =
      .next (State.answered { s with rtu := { s.rtu with params := f } } seq 0x10 .ok [])) ∧
    ∀ p : List Byte, p.length = 17 →
      (∃ o : Byte, o.toNat < 17 ∧ (∀ f : FreeRun, f.Legal → p ≠ f.octets) ∧
        exec (.setTiming seq p) s = .next (s.answered seq 0x10 .badField [o])) ∨
      ∃ f : FreeRun, f.Legal ∧ p = f.octets ∧ exec (.setTiming seq p) s =
        .next (State.answered { s with rtu := { s.rtu with params := f } } seq 0x10 .ok [])) ∧
  ∀ (s : State) (f : FreeRun),
    (s.rtu.lock = .freeRun ∨ s.rtu.lock = .acquiring →
      internalLayout s = (s.rtu.params.geometry, s.rtu.params.period)) ∧
    (s.rtu.lock = .locked ∨ s.rtu.lock = .holdover →
      s.rtu.locked.isSome = true → s.rtu.measured.isSome = true →
      internalLayout { s with rtu := { s.rtu with params := f } } = internalLayout s)

/-! ### Overlay store -/

/-- OVL_WRITE, OVL_FILL, OVL_COPY and OVL_READ, with any fields that their octets can carry, place their
operation in the record in CHECKING and stay in execution; the store and all else are untouched
(R100, R108, R110, R112, R115, R170, R172). -/
def Obligations.StoreCommandsEnterChecking : Prop :=
  ∀ (s : State) (seq : Byte) (v u : View) (w h : Nat) (index : Byte) (indices head tail : List Byte),
    Ready seq s → v.base < 16777216 → v.pitch < 65536 → v.x < 65536 → v.y < 65536 →
    u.base < 16777216 → u.pitch < 65536 → u.x < 65536 → u.y < 65536 → w < 65536 → h < 65536 →
    head = toOctets 3 v.base ++ toOctets 2 v.pitch ++ toOctets 2 v.x ++ toOctets 2 v.y →
    tail = toOctets 3 u.base ++ toOctets 2 u.pitch ++ toOctets 2 u.x ++ toOctets 2 u.y →
    (1 ≤ indices.length → indices.length ≤ 200 → exec (.ovlWrite seq (head ++ indices)) s =
      .next (State.executing { s with os := { s.os with op := some (.checking (.write v indices)) } }
        seq 0x30 (head ++ indices) .store)) ∧
    exec (.ovlFill seq (head ++ toOctets 2 w ++ toOctets 2 h ++ [index])) s =
      .next (State.executing { s with os := { s.os with op := some (.checking (.fill v w h index)) } }
        seq 0x31 (head ++ toOctets 2 w ++ toOctets 2 h ++ [index]) .store) ∧
    exec (.ovlCopy seq (head ++ tail ++ toOctets 2 w ++ toOctets 2 h)) s =
      .next (State.executing { s with os := { s.os with op := some (.checking (.copy v u w h)) } }
        seq 0x32 (head ++ tail ++ toOctets 2 w ++ toOctets 2 h) .store) ∧
    exec (.ovlRead seq (head ++ [index])) s =
      .next (State.executing { s with os := { s.os with
          op := some (.checking (.read v index.toNat)) } }
        seq 0x33 (head ++ [index]) .store)

/-- The checks of a store command in their order: a field out of its range, or a row that leaves its
surface row, is BAD_FIELD with that field's offset; an octet of source or destination outside the store is
OUT_OF_RANGE; a copy between unequal pitches whose linear footprints share an address is OVERLAP; a write
with a destination octet in a REJECT fence is FENCED with the lowest index of such a fence; anything else
passes. One that fails is answered with that refusal, the record empties and the store is untouched (R102,
R103, R107, R108, R110, R112, R113, R115). -/
def Obligations.ChecksDecideStoreOperation : Prop :=
  (∀ (p : StoreParams) (fences : List Fence),
     (∀ o, p.fault = some o → p.refusal fences = some (.badField, [octet o])) ∧
     (p.fault = none → 0 < p.width →
       ((∃ r < p.height, ∃ c < p.width, 1048575 < p.origin.at r c ∨ 1048575 < p.target.at r c) →
         p.refusal fences = some (.outOfRange, [])) ∧
       ((∀ r < p.height, ∀ c < p.width, p.origin.at r c ≤ 1048575 ∧ p.target.at r c ≤ 1048575) →
         (∀ src dst w h, p = .copy src dst w h → src.pitch ≠ dst.pitch →
           src.at 0 0 ≤ dst.at (h - 1) (w - 1) → dst.at 0 0 ≤ src.at (h - 1) (w - 1) →
           p.refusal fences = some (.overlap, [])) ∧
         ((∀ src dst w h, p = .copy src dst w h → src.pitch ≠ dst.pitch →
             dst.at (h - 1) (w - 1) < src.at 0 0 ∨ src.at (h - 1) (w - 1) < dst.at 0 0) →
           (∀ i, ∀ f ∈ fences[i]?, p.rejectedBy f →
             (∀ k < i, ∀ g ∈ fences[k]?, ¬ p.rejectedBy g) →
             p.refusal fences = some (.fenced, [octet i])) ∧
           ((∀ f ∈ fences, ¬ p.rejectedBy f) → p.refusal fences = none))))) ∧
  ∀ (s : State) (op : StoreOp) (q : Queued) (status : Status) (data : List Byte),
    s.os.op = some op → op.running = false → s.ce.exec = some ⟨q, .store⟩ → q.sequenced = true →
    s.ce.queue = [] → op.params.refusal s.os.fences = some (status, data) →
    exec .storeChecksComplete s =
      .next (State.completed { s with os := { s.os with op := none } } q status data)

/-- A store operation that writes, from the end of its checks to its last burst with the store to itself:
every destination octet outside the CLIP fences ends with the value the operation means for it, a
copy's being what its source held when the copy began, overlap or not; every other octet is unchanged;
the record empties; the command is answered OK with the counts of octets written and clipped (R103,
R104, R107, R109, R111, R113, R114, R116). -/
def Obligations.StoreOperationWritesFootprint : Prop :=
  ∀ (s : State) (p : StoreParams) (q : Queued), Memory.Wf s.os.cells →
    s.os.op = some (.checking p) → p.writes = true → p.refusal s.os.fences = none →
    storeIdle s → s.ce.exec = some ⟨q, .store⟩ → q.sequenced = true → s.ce.queue = [] →
    s.ce.cancel = none →
    ∃ t n u, exec .storeChecksComplete s = .next t ∧ n ≤ 2 * p.steps ∧ engineBursts n t = some u ∧
      u.os.op = none ∧
      (∀ r < p.height, ∀ c < p.width, clippedBy s.os.fences (p.target.at r c) = false →
        Memory.read u.os.cells (p.target.at r c) = p.valueAt s.os.cells r c) ∧
      (∀ a : Nat, (clippedBy s.os.fences a = true ∨
          ∀ r < p.height, ∀ c < p.width, p.target.at r c ≠ a) →
        Memory.read u.os.cells a = Memory.read s.os.cells a) ∧
      u.ce = (s.completed q .ok
        (toOctets 3 (p.countTargets fun a => !clippedBy s.os.fences a) ++
          toOctets 3 (p.countTargets fun a => clippedBy s.os.fences a))).ce ∧
      u.ct = s.ct ∧ u.rtu = s.rtu ∧ u.sf = s.sf ∧ u.nq = s.nq ∧ u.os.fences = s.os.fences

/-- An OVL_READ that passes its checks, with the store to itself, is answered OK with the octets the
store holds, in ascending address order; the store and the fences are untouched (R115). -/
def Obligations.StoreReadAnswersOctets : Prop :=
  ∀ (s : State) (v : View) (count : Nat) (q : Queued),
    s.os.op = some (.checking (.read v count)) →
    StoreParams.refusal (.read v count) s.os.fences = none → storeIdle s →
    s.ce.exec = some ⟨q, .store⟩ → q.sequenced = true → s.ce.queue = [] → s.ce.cancel = none →
    ∃ t u, exec .storeChecksComplete s = .next t ∧ engineBursts ((count + 63) / 64) t = some u ∧
      u = State.completed { s with os := { s.os with op := none } } q .ok
        ((List.range count).map fun k => Memory.read s.os.cells (v.at 0 k))

/-- A write burst of the command engine, behind which no command waits, changes exactly the octets it
carries, less those inside CLIP fences, and completes whole (R99, R104). -/
def Obligations.EngineWriteBurstCompletes : Prop :=
  ∀ (s : State) (op : StoreOp) (r : BurstRequest) (discard : Bool), Memory.Wf s.os.cells →
    s.os.op = some op → s.os.busy = some ⟨.ce, r, discard⟩ → r.write = true →
    r.addr + r.len ≤ 1048576 → s.ce.queue = [] →
    ∃ t, exec .ceBurstComplete s = .next t ∧ t.sf = s.sf ∧ t.os.fences = s.os.fences ∧
      ∀ a : Nat, Memory.read t.os.cells a =
        if r.addr ≤ a ∧ a < r.addr + (op.burstData r.len).length ∧
            clippedBy op.fences a = false then
          (op.burstData r.len).getD (a - r.addr) 0
        else Memory.read s.os.cells a

/-- READ_FENCE and READ_MEASURE answer the fence record and the monitor record as held and change nothing
outside the engine (R106, R135, R198). -/
def Obligations.FenceAndMeasureReads : Prop :=
  ∀ (s : State) (seq : Byte) (i : Nat), Ready seq s →
    (∀ f ∈ s.os.fences[i]?, i < 4 →
      exec (.readFence seq [octet i]) s = .next (s.answered seq 0x35 .ok f.octets)) ∧
    (∀ m ∈ s.mon.monitors[i]?, i < 16 → ∃ data : List Byte,
      exec (.readMeasure seq [octet i]) s = .next (s.answered seq 0x40 .ok data) ∧
      data.length = 28 ∧ fieldAt data 26 1 = m.level.code ∧
      (m.stillness ≤ 255 → fieldAt data 27 1 = m.stillness) ∧
      (m.record = none → ∀ k < 26, data.getD k 0 = 0) ∧
      ∀ r ∈ m.record, r.count ≤ 16777216 → r.sum ≤ 17163091968 → r.min ≤ 1023 → r.max ≤ 1023 →
        r.mean.getD 0 ≤ 1023 →
        fieldAt data 0 1 = 1 ∧ fieldAt data 1 2 = r.frame.toNat ∧ fieldAt data 3 8 = r.count ∧
        fieldAt data 11 8 = r.sum ∧ fieldAt data 19 2 = r.min ∧ fieldAt data 21 2 = r.max ∧
        fieldAt data 23 1 = flagCode r.mean.isSome ∧ fieldAt data 24 2 = r.mean.getD 0)

/-! ### Spans -/

/-- A span fetch burst completes: its octets enter the filling buffer at the span's offset, a finished
span becomes PRESENT, the next burst of the fetch is granted at once, and the store is untouched (R86,
R98, R99). -/
def Obligations.SpanBurstFillsBuffer : Prop :=
  ∀ (s : State) (r : BurstRequest) (list : List Nat) (j : SpanJob) (rest : List SpanJob),
    s.os.busy = some ⟨.sf, r, false⟩ → r.addr + r.len ≤ 1048576 →
    s.sf.fetch = some ⟨list, j :: rest⟩ → Memory.Wf s.sf.filling.octets →
    j.region < s.sf.filling.status.length →
    ∃ t f, exec .sfBurstComplete s = .next t ∧
      t = { s with
        sf := { s.sf with filling := t.sf.filling, fetch := some f }
        os := { s.os with
          busy := t.os.busy, sfWaiting := t.os.sfWaiting, ceWaiting := t.os.ceWaiting } } ∧
      t.sf.filling.owner = s.sf.filling.owner ∧
      (∀ a : Nat, Memory.read t.sf.filling.octets a =
        if j.offset + j.done ≤ a ∧ a < j.offset + j.done + r.len then
          Memory.read s.os.cells (r.addr + (a - (j.offset + j.done)))
        else Memory.read s.sf.filling.octets a) ∧
      (∀ i, t.sf.filling.statusOf i =
        if i = j.region ∧ j.length ≤ j.done + r.len then .present j.offset j.length
        else s.sf.filling.statusOf i) ∧
      f = ⟨list, if j.length ≤ j.done + r.len then rest
        else { j with done := j.done + r.len } :: rest⟩ ∧
      (∀ k l, f.jobs = k :: l → t.os.busy =
        some ⟨.sf, ⟨false, k.start + k.done, min 64 (k.length - k.done)⟩, false⟩)

/-- A fetch of active line t that starts: the fill list holds, by layer descending and index ascending,
exactly the enabled OVERLAY regions of the active bank whose rectangle takes in line t and begins below
the width W. Each in turn is placed, with length min(x1, W - 1) - x0 + 1, at the offset that the spans
placed before it take up, if it fits in what they leave of 8192 octets, and else gets status BUDGET;
every other region has status NONE. The spans to fetch are the placed ones, in list order, from the start
addresses of R84. Every span of a legal region lies inside the store (R6, R81 to R85). -/
def Obligations.SpansFillBufferInOrder : Prop :=
  (∀ (s : State) (t w : Nat) (bank : CompositionSet) (listed : Nat → Prop),
     bank = s.ct.activeSet → w = s.out.geometry.width →
     (∀ i < 16, (bank.region i).layer ≤ 15) →
     (∀ i, listed i ↔ i < 16 ∧ (bank.region i).enable = true ∧
       (bank.region i).source = .overlay ∧ (bank.region i).y0 ≤ t ∧ t ≤ (bank.region i).y1 ∧
       (bank.region i).x0 < w) →
     ∃ list jobs status, (startFetch t s).sf.fetch = some ⟨list, jobs⟩ ∧
       (startFetch t s).sf.filling.owner = some t ∧
       (startFetch t s).sf.filling.status = status ∧
       (∀ i, i ∈ list ↔ listed i) ∧ list.Pairwise (fillsBefore bank) ∧
       (∀ i < 16, ∀ used, used = (((List.range 16).filter fun k =>
             decide (fillsBefore bank k i)).map fun k => placedLength (status.getD k .none)).sum →
         used ≤ 8192 ∧
         (¬ listed i → status.getD i .none = .none) ∧
         (listed i → status.getD i .none =
           if min (bank.region i).x1 (w - 1) - (bank.region i).x0 + 1 ≤ 8192 - used then
             .placed used (min (bank.region i).x1 (w - 1) - (bank.region i).x0 + 1)
           else .budget)) ∧
       (∀ j : SpanJob, j ∈ jobs ↔ status.getD j.region .none = .placed j.offset j.length ∧
         j.start = (bank.region j.region).base +
           ((bank.region j.region).srcY + t - (bank.region j.region).y0) *
             (bank.region j.region).pitch + (bank.region j.region).srcX ∧ j.done = 0) ∧
       (∀ j ∈ jobs, j.offset + j.length ≤ 8192) ∧
       jobs.Pairwise (fun j k => j.offset + j.length ≤ k.offset ∧
         fillsBefore bank j.region k.region)) ∧
  ∀ (r : Region) (w t n : Nat), r.Legal → r.source = .overlay → r.y0 ≤ t → t ≤ r.y1 → r.x0 < w →
    n = min r.x1 (w - 1) - r.x0 + 1 →
    1 ≤ n ∧ n ≤ 4096 ∧ r.base + (r.srcY + t - r.y0) * r.pitch + r.srcX + n ≤ 1048576

/-! ### Pixels and cues -/

/-- The operations of R73 and the channel mask of R74: what a region makes of each channel of the colour
beneath, `d`, with colour `c` and opacity `a`. -/
def Obligations.RegionCombinesChannels : Prop :=
  ∀ (r : Region) (a : Nat) (d c : Colour), a ≤ 16 → d.Legal → c.Legal →
    (r.combine a d c).Legal ∧
    ∀ channel ∈ [(0, Colour.c0), (1, Colour.c1), (2, Colour.c2)],
      (r.mask.getLsbD channel.1 = false → channel.2 (r.combine a d c) = channel.2 d) ∧
      (r.mask.getLsbD channel.1 = true → channel.2 (r.combine a d c) =
        match r.op with
        | .copy => channel.2 c
        | .blend => (channel.2 d * (16 - a) + channel.2 c * a) / 16
        | .max => max (channel.2 d) (channel.2 c)
        | .min => min (channel.2 d) (channel.2 c)
        | .invert => 1023 - channel.2 d
        | .dim => channel.2 d * a / 16)

/-- Every output pixel over a legal active bank has channels 0..1023. A region takes part in a pixel
exactly when it is enabled, its rectangle clipped to the output geometry holds the pixel, and the cue mask
does not hold it; where none takes part the pixel is the starting colour. The region that takes part
above every other one acts on the pixel as it would be without it: a FILL region with its fill colour and
opacity, an INPUT region with its opacity on what lies beneath, an OVERLAY region with the palette entry
of its overlay index, unless its key is that index or the entry's opacity is 0, and one whose span is
missing with its fill colour and opacity 16. A FILL region with op COPY and a full mask there gives its
fill colour (R66 to R73). -/
def Obligations.ComposedPixels : Prop :=
  ∀ (s : State) (x y : Nat) (start : Colour), s.ct.activeSet.Legal → start.Legal →
    (composePixel s x y start).Legal ∧
    (∀ i < 16, ∀ r, r = s.ct.activeSet.region i → (takesPart s x y i = true ↔
      r.enable = true ∧ r.x0 ≤ x ∧ x ≤ r.x1 ∧ r.y0 ≤ y ∧ y ≤ r.y1 ∧ x < s.out.geometry.width ∧
      y < s.out.geometry.active ∧ s.comp.cueMask.getLsbD i = false)) ∧
    ((∀ i < 16, takesPart s x y i = false) → composePixel s x y start = start) ∧
    (∀ i < 16, takesPart s x y i = true →
      (∀ k < 16, k ≠ i → takesPart s x y k = true → visitedBefore s.ct.activeSet k i) →
      ∀ (r : Region) (below pixel : Colour), r = s.ct.activeSet.region i →
      below = composePixel
        { s with ct := { s.ct with activeSet := s.ct.activeSet.without i } } x y start →
      pixel = composePixel s x y start →
      (r.source = .fill → pixel = r.combine r.opacity below r.fill) ∧
      (r.source = .input → ∀ c, pixel = r.combine r.opacity below c) ∧
      (r.source = .overlay → ∀ offset n, s.sf.showing.statusOf i = .present offset n →
        ∀ (v : Byte) (e : PaletteEntry),
          v = Memory.read s.sf.showing.octets (offset + (x - r.x0)) →
          e = s.ct.activeSet.entry v.toNat →
          (r.key = some v ∨ e.opacity = 0 → pixel = below) ∧
          (r.key ≠ some v → e.opacity ≠ 0 → pixel = r.combine e.opacity below e.colour)) ∧
      (r.source = .overlay →
        s.sf.showing.statusOf i = .budget ∨ s.sf.showing.statusOf i = .late →
        pixel = r.combine 16 below r.fill)) ∧
    ∀ i < 16, takesPart s x y i = true → (s.ct.activeSet.region i).source = .fill →
      (s.ct.activeSet.region i).op = .copy → (s.ct.activeSet.region i).mask = 7 →
      (∀ k < 16, k ≠ i → takesPart s x y k = true →
        (s.ct.activeSet.region k).layer < (s.ct.activeSet.region i).layer ∨
        (s.ct.activeSet.region k).layer = (s.ct.activeSet.region i).layer ∧ k < i) →
      composePixel s x y start = (s.ct.activeSet.region i).fill

/-- The cues of an active line decide for each region whether it is hidden: the last HIDE or SHOW cue of
the line that names it decides, and a region no such cue names stays as it was (R75). -/
def Obligations.LastCueDecides : Prop :=
  ∀ (bank : CompositionSet) (y : Nat) (mask : BitVec 16) (i : Nat), i < 16 →
    (∀ k < 8, (bank.cue k).enable = true → (bank.cue k).line = y →
        (bank.cue k).action ≠ .notifyCue → (bank.cue k).regions.getLsbD i = true →
      (∀ l < 8, k < l → (bank.cue l).enable = true → (bank.cue l).line = y →
        (bank.cue l).action ≠ .notifyCue → (bank.cue l).regions.getLsbD i = false) →
      (cueMaskAt bank y mask).getLsbD i = decide ((bank.cue k).action = .hideRegions)) ∧
    ((∀ k < 8, (bank.cue k).enable = true → (bank.cue k).line = y →
        (bank.cue k).action ≠ .notifyCue → (bank.cue k).regions.getLsbD i = false) →
      (cueMaskAt bank y mask).getLsbD i = mask.getLsbD i)

/-! ### Region monitor -/

/-- RMON takes an output ACTIVE line: a measuring region counts and sums the C0 values of exactly the
words at positions x0..x1 below the width and within the line; every other region is untouched
(R122). -/
def Obligations.MonitorTakesActiveLine : Prop :=
  ∀ (s : State) (y i : Nat) (words : List Pixel) (m : Monitor), s.mon.measuring = true →
    s.out.inputTimed = true → y < s.out.geometry.active → s.mon.monitors[i]? = some m →
    (accumulateLine y words s).mon.monitors[i]? =
      some (if (s.ct.activeSet.region i).measure = true ∧ (s.ct.activeSet.region i).y0 ≤ y ∧
          y ≤ (s.ct.activeSet.region i).y1 then
        { m with
          count := ((accumulateLine y words s).mon.monitor i).count
          sum := ((accumulateLine y words s).mon.monitor i).sum
          min := ((accumulateLine y words s).mon.monitor i).min
          max := ((accumulateLine y words s).mon.monitor i).max }
        else m) ∧
    ∀ taken : List Nat, taken =
        ((List.range words.length).filter fun x =>
          decide ((s.ct.activeSet.region i).x0 ≤ x ∧ x ≤ (s.ct.activeSet.region i).x1 ∧
            x < s.out.geometry.width)).map (fun x => luma (words.getD x 0)) →
      (s.ct.activeSet.region i).measure = true → (s.ct.activeSet.region i).y0 ≤ y →
      y ≤ (s.ct.activeSet.region i).y1 →
      ((accumulateLine y words s).mon.monitor i).count = m.count + taken.length ∧
      ((accumulateLine y words s).mon.monitor i).sum = m.sum + taken.sum ∧
      (m.count = 0 → taken ≠ [] →
        some ((accumulateLine y words s).mon.monitor i).min = taken.min? ∧
        some ((accumulateLine y words s).mon.monitor i).max = taken.max?)

/-- Step 2 of a latch: the level state follows the mean and the threshold, and a LEVEL notification is
offered exactly in the cases of R128. Step 3 with a count above 0: the stillness count and the FROZEN
and MOVING notifications (R127 to R130). -/
def Obligations.LatchFollowsMonitorRules : Prop :=
  (∀ (s : State) (i mean : Nat) (m : Measurement) (old new : Level), m.mean = some mean →
     i < s.mon.monitors.length → old = (s.mon.monitor i).level →
     ((s.ct.activeSet.region i).threshold = none → new = .unknown) →
     (∀ low high, (s.ct.activeSet.region i).threshold = some (low, high) → low ≤ high →
       (mean < low → new = .low) ∧ (low ≤ mean → mean ≤ high → new = .inRange) ∧
       (high < mean → new = .high)) →
     (∀ p ∈ (s.ct.activeSet.region i).threshold, p.1 ≤ p.2) →
     latchLevel i m s =
       if new = .low ∧ old ≠ .low ∨ new = .high ∧ old ≠ .high ∨
           new = .inRange ∧ (old = .low ∨ old = .high) then
         offer (.level i old new mean) (s.setMonitor i { s.mon.monitor i with level := new })
       else s.setMonitor i { s.mon.monitor i with level := new }) ∧
  ∀ (s : State) (i k : Nat) (previous : Option Measurement) (m : Measurement) (r : Monitor),
    0 < m.count → i < s.mon.monitors.length → r = s.mon.monitor i →
    k = (if ∃ q ∈ previous, 0 < q.count ∧ q.sum = m.sum ∧ q.min = m.min ∧ q.max = m.max then
        (if r.stillness < 255 then r.stillness + 1 else r.stillness) else 0) →
    latchStillness i previous m s =
      if 1 ≤ (s.ct.activeSet.region i).freezeLimit ∧ (s.ct.activeSet.region i).freezeLimit ≤ k ∧
          r.frozen = false then
        offer (.frozen i k) (s.setMonitor i { r with stillness := k, frozen := true })
      else if k = 0 ∧ r.frozen = true then
        offer (.moving i k) (s.setMonitor i { r with stillness := k, frozen := false })
      else s.setMonitor i { r with stillness := k }

/-! ### Management lines and notifications -/

/-- The octets of a whole packet, fed from a packet-start position, are taken as that packet once its last
CRC octet has arrived, and its CRC is good (R139 to R142). -/
def Obligations.PacketIsParsedWhole : Prop :=
  ∀ (s : State) (n : Nat) (dest src kind seq code : Byte) (payload : List Byte),
    s.mlu.parse = some ⟨n, false, []⟩ → payload.length ≤ 240 →
    packetCrcGood (packetOf dest src kind seq code payload) = true ∧
    (packetOf dest src kind seq code payload).foldl feedOctet s =
      takePacket (packetOf dest src kind seq code payload)
        (setParse (some ⟨n + payload.length + 9, false, []⟩) s)

/-- A packet taken from an arriving line goes by the first row of R143 that applies. A bad CRC is counted
and the packet forwarded unchanged. A good COMMAND to the node's own address 1..30 is handed to intake with
its sequence, code and payload and is not forwarded. One to 31 is forwarded, and COMMIT and NODE_RESET are
handed to broadcast intake besides, as their rows are, any other code counted as misaddressed; outside
LOCKED the order of dropping and NODE_RESET is open (log 27). An ENUM without payload is forwarded
unchanged. One with hop count h of 0..29 sets the node address to h + 1 and goes on with hop count h + 1 and
a new CRC; with h of 30 or more the address becomes 0 and the packet goes on unchanged; either way the
engine's last accepted sequence is ABSENT and its replay cache empty. Every other packet is forwarded:
COMMANDs to other destinations, to 0 at node address 0 too, RESPONSE, NOTIFY and unknown kinds. Forwarding
is the forward list of the line in LOCKED, and a drop that counts outside it (R142 to R150). -/
def Obligations.TakenPacketsAreDisposed : Prop :=
  (∀ (s : State) (l : InputLine) (p : Packet), s.rtu.cur = some l → packetCrcGood p = false →
    takePacket p s =
      State.passing { s with mlu := { s.mlu with crcErrors := countUp s.mlu.crcErrors } } p l) ∧
  (∀ (s : State) (dest src seq code : Byte) (payload : List Byte), payload.length ≤ 240 →
    dest.toNat = s.mlu.address → 1 ≤ s.mlu.address → s.mlu.address ≤ 30 →
    takePacket (packetOf dest src 0x01 seq code payload) s =
      intakeAddressed seq code payload s) ∧
  (∀ (s : State) (l : InputLine) (dest src kind seq code : Byte) (payload : List Byte)
    (p : Packet), s.rtu.cur = some l → payload.length ≤ 240 →
    p = packetOf dest src kind seq code payload →
    (kind = 0x01 → dest.toNat ≠ 31 →
      (dest.toNat = s.mlu.address → s.mlu.address = 0) → takePacket p s = s.passing p l) ∧
    (kind ≠ 0x01 → kind ≠ 0x04 → takePacket p s = s.passing p l) ∧
    (kind = 0x04 → payload = [] → takePacket p s = s.passing p l)) ∧
  (∀ (s : State) (l : InputLine) (src seq code : Byte) (payload : List Byte) (p : Packet),
    s.rtu.cur = some l → payload.length ≤ 240 →
    p = packetOf 31 src 0x01 seq code payload →
    (code ≠ 0x22 → code ≠ 0x71 → takePacket p s =
      State.passing { s with mlu := { s.mlu with
        misaddressed := countUp s.mlu.misaddressed } } p l) ∧
    (s.resetLow = false → s.os.clearing = false → code = 0x22 →
      exec (.broadcastCommit payload) (s.passing p l) = .next (takePacket p s)) ∧
    (s.resetLow = false → s.os.clearing = false → code = 0x71 → s.rtu.lock = .locked →
      exec (.nodeReset true seq payload) (s.passing p l) = .next (takePacket p s)) ∧
    (s.resetLow = false → s.os.clearing = false → code = 0x71 → s.rtu.lock ≠ .locked →
      exec (.nodeReset true seq payload) (State.passing { s with free := s.free + 1 } p l) =
        .next (takePacket p s) ∨
      ∃ t, exec (.nodeReset true seq payload) { s with free := s.free + 1 } = .next t ∧
        takePacket p s = t.passing p l)) ∧
  ∀ (s : State) (dest src seq code h : Byte) (rest : List Byte) (l : InputLine),
    rest.length ≤ 239 → s.rtu.cur = some l →
    takePacket (packetOf dest src 0x04 seq code (h :: rest)) s =
      State.passing { s with
        mlu := { s.mlu with address := if h.toNat ≤ 29 then h.toNat + 1 else 0 }
        ce := { s.ce with lastSeq := none, cache := [] } }
        (packetOf dest src 0x04 seq code
          ((if h.toNat ≤ 29 then octet (h.toNat + 1) else h) :: rest)) l

/-- An output MGMT line: its area is three octets a word, the forwarded packets first and in input order.
With nothing else at its line start, inserted packets come after them and idle octets last. A node with
address 0 inserts nothing. Any other node inserts the eligible responses and notifications by turns, each
kind oldest first and a response first, the other kind alone once one runs dry, up to the first that does
not fit; nothing passes it. The first response carries the discarded count and the first notification the
lost count, both then 0; the notification sequence runs on; what was emitted leaves its queue and a slot
(R146, R151 to R154, R157, R185). Those octets are what the pixel words of the line carry, in an internal
frame and in one in input timing, and reading the words gives the octets back (R138, R151). An emission
against an offer to a full queue: taken first, it leaves a place and nothing is lost; taken second, its
packet carries the drop, and the lost count is 0 (R185). The whole line at its start is the model's choice
(log 18), as is the clock's due time (log 4). -/
def Obligations.AssemblyOrdersPackets : Prop :=
  (∀ (s : State) (words : Nat) (forward : List Packet) (idle : Nat → List Byte),
    forward.flatten.length ≤ 3 * words →
    idle = (fun n => List.replicate (3 * words - forward.flatten.length - n) 0) →
    (s.mlu.address = 0 → assembleLine words forward s =
      ({ s with mlu := { s.mlu with assembled := s.mlu.assembled + 1 } },
        forward.flatten ++ idle 0)) ∧
    ∀ responses notifications inserted : List Packet, 1 ≤ s.mlu.address →
      responses = (s.ce.responses.takeWhile fun r => decide (r.eligible ≤ s.mlu.assembled)).mapIdx
        (emittedResponse s) →
      notifications = (s.nq.entries.takeWhile fun e =>
        decide (e.eligible ≤ s.mlu.assembled)).mapIdx (emittedNotification s) →
      inserted = fitting (3 * words - forward.flatten.length)
        (alternate responses notifications) →
      ∃ i j, i ≤ responses.length ∧ j ≤ notifications.length ∧
        inserted = alternate (responses.take i) (notifications.take j) ∧
        assembleLine words forward s =
          ({ s with
              ce := { s.ce with
                responses := s.ce.responses.drop i
                discardedSince := if i = 0 then s.ce.discardedSince else 0
                slot := if (s.ce.responses.take i).any (fun r => r.immediate) then .free
                  else s.ce.slot }
              nq := { s.nq with
                entries := s.nq.entries.drop j, lost := if j = 0 then s.nq.lost else 0 }
              mlu := { s.mlu with
                assembled := s.mlu.assembled + 1
                sequence := s.mlu.sequence + BitVec.ofNat 8 j } },
            forward.flatten ++ inserted.flatten ++ idle inserted.flatten.length)) ∧
  (∀ (area : List Byte) (n : Nat), area.length = 3 * n →
    (areaPixels area).length = n ∧ (areaPixels area).flatMap areaOctets = area) ∧
  (∀ s : State, s.resetLow = false → s.out.running = true → s.out.inputTimed = false →
    s.out.line + 1 < s.out.geometry.total → s.out.line + 1 ≤ s.out.geometry.mgmt →
    s.out.line + 1 < s.out.geometry.firstActive →
    ∃ t area, exec .internalLineStart s = .next t ∧ PortArea false area t ∧
      area.length = 3 * s.out.geometry.width ∧
      (s.out.line + 2 ≠ s.out.geometry.firstActive →
        (s.out.activeCount = 0 ∨ s.out.frameEnded = true) →
        area = (assembleLine s.out.geometry.width [] s).2 ∧
        t = { (assembleLine s.out.geometry.width [] s).1 with
          now := max s.now (s.out.startedAt +
            (s.out.line + 1) * s.out.period / s.out.geometry.total * 1000)
          out := { s.out with line := s.out.line + 1, tx := t.out.tx } })) ∧
  (∀ (s : State) (bits : BitVec 31) (clock : Nat) (a : InputLine), s.resetLow = false →
    s.rtu.lock = .locked → s.out.inputTimed = true → bits.getLsbD 4 = false →
    s.rtu.prev = some a → a.kind = .mgmt → a.forward.flatten.length ≤ 3 * a.words.length →
    ∃ t area, exec (.inputLineStart bits clock) s = .next t ∧ PortArea a.frameStart area t ∧
      area.length = 3 * a.words.length ∧ a.forward.flatten <+: area ∧
      ∀ u, u = (assembleLine a.words.length a.forward s).1 →
        (∀ l ∈ s.rtu.cur, l.kind = .active → l.frameStart = true) →
        (∀ p ∈ s.mlu.parse, p.ended = true ∨ p.packet = []) →
        (s.out.activeCount = 0 ∨ s.out.frameEnded = true) →
        area = (assembleLine a.words.length a.forward s).2 ∧
        t.ce = u.ce ∧ t.nq = u.nq ∧ t.mlu = { u.mlu with parse := t.mlu.parse }) ∧
  ∀ (s : State) (n : Notice) (e : Notification) (rest : List Notification),
    s.nq.mask.getLsbD n.position = true → s.nq.entries = e :: rest → rest.length = 15 →
    s.nq.lost ≤ 254 → s.nq.lostTotal ≤ 65534 →
    (offer n (emitNotification s)).nq = { s.nq with
      entries := rest ++ [⟨n, s.out.counter, s.mlu.assembled⟩], lost := 0 } ∧
    notificationPacket e (offer n s) =
      packetOf 0 (octet s.mlu.address) 0x03 s.mlu.sequence (octet (e.notice.position + 1))
        (toOctets 2 e.frame.toNat ++ [octet (s.nq.lost + 1)] ++ e.notice.data) ∧
    (emitNotification (offer n s)).nq = { s.nq with
      entries := rest, lost := 0, lostTotal := s.nq.lostTotal + 1 }

/-- The NQ takes an offer: a masked kind is passed over, an enabled one is appended while fewer than 16
wait, and otherwise it is dropped and counted, the lost count stopping at 255 and notifications_lost at
65,535; the queue never holds more than 16 (R183). -/
def Obligations.OfferRule : Prop :=
  ∀ (s : State) (frame : BitVec 16) (n : Notice),
    (s.nq.mask.getLsbD n.position = false → offerWith frame n s = s) ∧
    (s.nq.mask.getLsbD n.position = true → s.nq.entries.length < 16 → offerWith frame n s =
      { s with nq := { s.nq with entries := s.nq.entries ++ [⟨n, frame, s.mlu.assembled⟩] } }) ∧
    (s.nq.mask.getLsbD n.position = true → 16 ≤ s.nq.entries.length →
      s.nq.lost ≤ 255 → s.nq.lostTotal ≤ 65535 → offerWith frame n s =
      { s with nq := { s.nq with
        lost := min 255 (s.nq.lost + 1), lostTotal := min 65535 (s.nq.lostTotal + 1) } }) ∧
    (s.nq.entries.length ≤ 16 → (offerWith frame n s).nq.entries.length ≤ 16)

end
end

