-- ==== Sys2Proof/Laws/State.lean ====
section
/-! SUPPORT. One lemma per field per update of State, so that no proof unfolds a record update. -/

namespace Sys2Proof.Machine

/-! ### withCt -/

@[simp] theorem State.withCt_pending (s : State) (x : CompositionTable) : (s.withCt x).pending = s.pending := rfl
@[simp] theorem State.withCt_resetLow (s : State) (x : CompositionTable) : (s.withCt x).resetLow = s.resetLow := rfl
@[simp] theorem State.withCt_now (s : State) (x : CompositionTable) : (s.withCt x).now = s.now := rfl
@[simp] theorem State.withCt_free (s : State) (x : CompositionTable) : (s.withCt x).free = s.free := rfl
@[simp] theorem State.withCt_ct (s : State) (x : CompositionTable) : (s.withCt x).ct = x := rfl
@[simp] theorem State.withCt_rtu (s : State) (x : CompositionTable) : (s.withCt x).rtu = s.rtu := rfl
@[simp] theorem State.withCt_out (s : State) (x : CompositionTable) : (s.withCt x).out = s.out := rfl
@[simp] theorem State.withCt_comp (s : State) (x : CompositionTable) : (s.withCt x).comp = s.comp := rfl
@[simp] theorem State.withCt_sf (s : State) (x : CompositionTable) : (s.withCt x).sf = s.sf := rfl
@[simp] theorem State.withCt_os (s : State) (x : CompositionTable) : (s.withCt x).os = s.os := rfl
@[simp] theorem State.withCt_mon (s : State) (x : CompositionTable) : (s.withCt x).mon = s.mon := rfl
@[simp] theorem State.withCt_mlu (s : State) (x : CompositionTable) : (s.withCt x).mlu = s.mlu := rfl
@[simp] theorem State.withCt_ce (s : State) (x : CompositionTable) : (s.withCt x).ce = s.ce := rfl
@[simp] theorem State.withCt_nq (s : State) (x : CompositionTable) : (s.withCt x).nq = s.nq := rfl

/-! ### withRtu -/

@[simp] theorem State.withRtu_pending (s : State) (x : RasterTiming) : (s.withRtu x).pending = s.pending := rfl
@[simp] theorem State.withRtu_resetLow (s : State) (x : RasterTiming) : (s.withRtu x).resetLow = s.resetLow := rfl
@[simp] theorem State.withRtu_now (s : State) (x : RasterTiming) : (s.withRtu x).now = s.now := rfl
@[simp] theorem State.withRtu_free (s : State) (x : RasterTiming) : (s.withRtu x).free = s.free := rfl
@[simp] theorem State.withRtu_ct (s : State) (x : RasterTiming) : (s.withRtu x).ct = s.ct := rfl
@[simp] theorem State.withRtu_rtu (s : State) (x : RasterTiming) : (s.withRtu x).rtu = x := rfl
@[simp] theorem State.withRtu_out (s : State) (x : RasterTiming) : (s.withRtu x).out = s.out := rfl
@[simp] theorem State.withRtu_comp (s : State) (x : RasterTiming) : (s.withRtu x).comp = s.comp := rfl
@[simp] theorem State.withRtu_sf (s : State) (x : RasterTiming) : (s.withRtu x).sf = s.sf := rfl
@[simp] theorem State.withRtu_os (s : State) (x : RasterTiming) : (s.withRtu x).os = s.os := rfl
@[simp] theorem State.withRtu_mon (s : State) (x : RasterTiming) : (s.withRtu x).mon = s.mon := rfl
@[simp] theorem State.withRtu_mlu (s : State) (x : RasterTiming) : (s.withRtu x).mlu = s.mlu := rfl
@[simp] theorem State.withRtu_ce (s : State) (x : RasterTiming) : (s.withRtu x).ce = s.ce := rfl
@[simp] theorem State.withRtu_nq (s : State) (x : RasterTiming) : (s.withRtu x).nq = s.nq := rfl

/-! ### withOut -/

@[simp] theorem State.withOut_pending (s : State) (x : OutputRaster) : (s.withOut x).pending = s.pending := rfl
@[simp] theorem State.withOut_resetLow (s : State) (x : OutputRaster) : (s.withOut x).resetLow = s.resetLow := rfl
@[simp] theorem State.withOut_now (s : State) (x : OutputRaster) : (s.withOut x).now = s.now := rfl
@[simp] theorem State.withOut_free (s : State) (x : OutputRaster) : (s.withOut x).free = s.free := rfl
@[simp] theorem State.withOut_ct (s : State) (x : OutputRaster) : (s.withOut x).ct = s.ct := rfl
@[simp] theorem State.withOut_rtu (s : State) (x : OutputRaster) : (s.withOut x).rtu = s.rtu := rfl
@[simp] theorem State.withOut_out (s : State) (x : OutputRaster) : (s.withOut x).out = x := rfl
@[simp] theorem State.withOut_comp (s : State) (x : OutputRaster) : (s.withOut x).comp = s.comp := rfl
@[simp] theorem State.withOut_sf (s : State) (x : OutputRaster) : (s.withOut x).sf = s.sf := rfl
@[simp] theorem State.withOut_os (s : State) (x : OutputRaster) : (s.withOut x).os = s.os := rfl
@[simp] theorem State.withOut_mon (s : State) (x : OutputRaster) : (s.withOut x).mon = s.mon := rfl
@[simp] theorem State.withOut_mlu (s : State) (x : OutputRaster) : (s.withOut x).mlu = s.mlu := rfl
@[simp] theorem State.withOut_ce (s : State) (x : OutputRaster) : (s.withOut x).ce = s.ce := rfl
@[simp] theorem State.withOut_nq (s : State) (x : OutputRaster) : (s.withOut x).nq = s.nq := rfl

/-! ### withComp -/

@[simp] theorem State.withComp_pending (s : State) (x : Compositor) : (s.withComp x).pending = s.pending := rfl
@[simp] theorem State.withComp_resetLow (s : State) (x : Compositor) : (s.withComp x).resetLow = s.resetLow := rfl
@[simp] theorem State.withComp_now (s : State) (x : Compositor) : (s.withComp x).now = s.now := rfl
@[simp] theorem State.withComp_free (s : State) (x : Compositor) : (s.withComp x).free = s.free := rfl
@[simp] theorem State.withComp_ct (s : State) (x : Compositor) : (s.withComp x).ct = s.ct := rfl
@[simp] theorem State.withComp_rtu (s : State) (x : Compositor) : (s.withComp x).rtu = s.rtu := rfl
@[simp] theorem State.withComp_out (s : State) (x : Compositor) : (s.withComp x).out = s.out := rfl
@[simp] theorem State.withComp_comp (s : State) (x : Compositor) : (s.withComp x).comp = x := rfl
@[simp] theorem State.withComp_sf (s : State) (x : Compositor) : (s.withComp x).sf = s.sf := rfl
@[simp] theorem State.withComp_os (s : State) (x : Compositor) : (s.withComp x).os = s.os := rfl
@[simp] theorem State.withComp_mon (s : State) (x : Compositor) : (s.withComp x).mon = s.mon := rfl
@[simp] theorem State.withComp_mlu (s : State) (x : Compositor) : (s.withComp x).mlu = s.mlu := rfl
@[simp] theorem State.withComp_ce (s : State) (x : Compositor) : (s.withComp x).ce = s.ce := rfl
@[simp] theorem State.withComp_nq (s : State) (x : Compositor) : (s.withComp x).nq = s.nq := rfl

/-! ### withSf -/

@[simp] theorem State.withSf_pending (s : State) (x : SpanFetcher) : (s.withSf x).pending = s.pending := rfl
@[simp] theorem State.withSf_resetLow (s : State) (x : SpanFetcher) : (s.withSf x).resetLow = s.resetLow := rfl
@[simp] theorem State.withSf_now (s : State) (x : SpanFetcher) : (s.withSf x).now = s.now := rfl
@[simp] theorem State.withSf_free (s : State) (x : SpanFetcher) : (s.withSf x).free = s.free := rfl
@[simp] theorem State.withSf_ct (s : State) (x : SpanFetcher) : (s.withSf x).ct = s.ct := rfl
@[simp] theorem State.withSf_rtu (s : State) (x : SpanFetcher) : (s.withSf x).rtu = s.rtu := rfl
@[simp] theorem State.withSf_out (s : State) (x : SpanFetcher) : (s.withSf x).out = s.out := rfl
@[simp] theorem State.withSf_comp (s : State) (x : SpanFetcher) : (s.withSf x).comp = s.comp := rfl
@[simp] theorem State.withSf_sf (s : State) (x : SpanFetcher) : (s.withSf x).sf = x := rfl
@[simp] theorem State.withSf_os (s : State) (x : SpanFetcher) : (s.withSf x).os = s.os := rfl
@[simp] theorem State.withSf_mon (s : State) (x : SpanFetcher) : (s.withSf x).mon = s.mon := rfl
@[simp] theorem State.withSf_mlu (s : State) (x : SpanFetcher) : (s.withSf x).mlu = s.mlu := rfl
@[simp] theorem State.withSf_ce (s : State) (x : SpanFetcher) : (s.withSf x).ce = s.ce := rfl
@[simp] theorem State.withSf_nq (s : State) (x : SpanFetcher) : (s.withSf x).nq = s.nq := rfl

/-! ### withOs -/

@[simp] theorem State.withOs_pending (s : State) (x : OverlayStore) : (s.withOs x).pending = s.pending := rfl
@[simp] theorem State.withOs_resetLow (s : State) (x : OverlayStore) : (s.withOs x).resetLow = s.resetLow := rfl
@[simp] theorem State.withOs_now (s : State) (x : OverlayStore) : (s.withOs x).now = s.now := rfl
@[simp] theorem State.withOs_free (s : State) (x : OverlayStore) : (s.withOs x).free = s.free := rfl
@[simp] theorem State.withOs_ct (s : State) (x : OverlayStore) : (s.withOs x).ct = s.ct := rfl
@[simp] theorem State.withOs_rtu (s : State) (x : OverlayStore) : (s.withOs x).rtu = s.rtu := rfl
@[simp] theorem State.withOs_out (s : State) (x : OverlayStore) : (s.withOs x).out = s.out := rfl
@[simp] theorem State.withOs_comp (s : State) (x : OverlayStore) : (s.withOs x).comp = s.comp := rfl
@[simp] theorem State.withOs_sf (s : State) (x : OverlayStore) : (s.withOs x).sf = s.sf := rfl
@[simp] theorem State.withOs_os (s : State) (x : OverlayStore) : (s.withOs x).os = x := rfl
@[simp] theorem State.withOs_mon (s : State) (x : OverlayStore) : (s.withOs x).mon = s.mon := rfl
@[simp] theorem State.withOs_mlu (s : State) (x : OverlayStore) : (s.withOs x).mlu = s.mlu := rfl
@[simp] theorem State.withOs_ce (s : State) (x : OverlayStore) : (s.withOs x).ce = s.ce := rfl
@[simp] theorem State.withOs_nq (s : State) (x : OverlayStore) : (s.withOs x).nq = s.nq := rfl

/-! ### withMon -/

@[simp] theorem State.withMon_pending (s : State) (x : RegionMonitor) : (s.withMon x).pending = s.pending := rfl
@[simp] theorem State.withMon_resetLow (s : State) (x : RegionMonitor) : (s.withMon x).resetLow = s.resetLow := rfl
@[simp] theorem State.withMon_now (s : State) (x : RegionMonitor) : (s.withMon x).now = s.now := rfl
@[simp] theorem State.withMon_free (s : State) (x : RegionMonitor) : (s.withMon x).free = s.free := rfl
@[simp] theorem State.withMon_ct (s : State) (x : RegionMonitor) : (s.withMon x).ct = s.ct := rfl
@[simp] theorem State.withMon_rtu (s : State) (x : RegionMonitor) : (s.withMon x).rtu = s.rtu := rfl
@[simp] theorem State.withMon_out (s : State) (x : RegionMonitor) : (s.withMon x).out = s.out := rfl
@[simp] theorem State.withMon_comp (s : State) (x : RegionMonitor) : (s.withMon x).comp = s.comp := rfl
@[simp] theorem State.withMon_sf (s : State) (x : RegionMonitor) : (s.withMon x).sf = s.sf := rfl
@[simp] theorem State.withMon_os (s : State) (x : RegionMonitor) : (s.withMon x).os = s.os := rfl
@[simp] theorem State.withMon_mon (s : State) (x : RegionMonitor) : (s.withMon x).mon = x := rfl
@[simp] theorem State.withMon_mlu (s : State) (x : RegionMonitor) : (s.withMon x).mlu = s.mlu := rfl
@[simp] theorem State.withMon_ce (s : State) (x : RegionMonitor) : (s.withMon x).ce = s.ce := rfl
@[simp] theorem State.withMon_nq (s : State) (x : RegionMonitor) : (s.withMon x).nq = s.nq := rfl

/-! ### withMlu -/

@[simp] theorem State.withMlu_pending (s : State) (x : ManagementUnit) : (s.withMlu x).pending = s.pending := rfl
@[simp] theorem State.withMlu_resetLow (s : State) (x : ManagementUnit) : (s.withMlu x).resetLow = s.resetLow := rfl
@[simp] theorem State.withMlu_now (s : State) (x : ManagementUnit) : (s.withMlu x).now = s.now := rfl
@[simp] theorem State.withMlu_free (s : State) (x : ManagementUnit) : (s.withMlu x).free = s.free := rfl
@[simp] theorem State.withMlu_ct (s : State) (x : ManagementUnit) : (s.withMlu x).ct = s.ct := rfl
@[simp] theorem State.withMlu_rtu (s : State) (x : ManagementUnit) : (s.withMlu x).rtu = s.rtu := rfl
@[simp] theorem State.withMlu_out (s : State) (x : ManagementUnit) : (s.withMlu x).out = s.out := rfl
@[simp] theorem State.withMlu_comp (s : State) (x : ManagementUnit) : (s.withMlu x).comp = s.comp := rfl
@[simp] theorem State.withMlu_sf (s : State) (x : ManagementUnit) : (s.withMlu x).sf = s.sf := rfl
@[simp] theorem State.withMlu_os (s : State) (x : ManagementUnit) : (s.withMlu x).os = s.os := rfl
@[simp] theorem State.withMlu_mon (s : State) (x : ManagementUnit) : (s.withMlu x).mon = s.mon := rfl
@[simp] theorem State.withMlu_mlu (s : State) (x : ManagementUnit) : (s.withMlu x).mlu = x := rfl
@[simp] theorem State.withMlu_ce (s : State) (x : ManagementUnit) : (s.withMlu x).ce = s.ce := rfl
@[simp] theorem State.withMlu_nq (s : State) (x : ManagementUnit) : (s.withMlu x).nq = s.nq := rfl

/-! ### withCe -/

@[simp] theorem State.withCe_pending (s : State) (x : CommandEngine) : (s.withCe x).pending = s.pending := rfl
@[simp] theorem State.withCe_resetLow (s : State) (x : CommandEngine) : (s.withCe x).resetLow = s.resetLow := rfl
@[simp] theorem State.withCe_now (s : State) (x : CommandEngine) : (s.withCe x).now = s.now := rfl
@[simp] theorem State.withCe_free (s : State) (x : CommandEngine) : (s.withCe x).free = s.free := rfl
@[simp] theorem State.withCe_ct (s : State) (x : CommandEngine) : (s.withCe x).ct = s.ct := rfl
@[simp] theorem State.withCe_rtu (s : State) (x : CommandEngine) : (s.withCe x).rtu = s.rtu := rfl
@[simp] theorem State.withCe_out (s : State) (x : CommandEngine) : (s.withCe x).out = s.out := rfl
@[simp] theorem State.withCe_comp (s : State) (x : CommandEngine) : (s.withCe x).comp = s.comp := rfl
@[simp] theorem State.withCe_sf (s : State) (x : CommandEngine) : (s.withCe x).sf = s.sf := rfl
@[simp] theorem State.withCe_os (s : State) (x : CommandEngine) : (s.withCe x).os = s.os := rfl
@[simp] theorem State.withCe_mon (s : State) (x : CommandEngine) : (s.withCe x).mon = s.mon := rfl
@[simp] theorem State.withCe_mlu (s : State) (x : CommandEngine) : (s.withCe x).mlu = s.mlu := rfl
@[simp] theorem State.withCe_ce (s : State) (x : CommandEngine) : (s.withCe x).ce = x := rfl
@[simp] theorem State.withCe_nq (s : State) (x : CommandEngine) : (s.withCe x).nq = s.nq := rfl

/-! ### withNq -/

@[simp] theorem State.withNq_pending (s : State) (x : NotificationQueue) : (s.withNq x).pending = s.pending := rfl
@[simp] theorem State.withNq_resetLow (s : State) (x : NotificationQueue) : (s.withNq x).resetLow = s.resetLow := rfl
@[simp] theorem State.withNq_now (s : State) (x : NotificationQueue) : (s.withNq x).now = s.now := rfl
@[simp] theorem State.withNq_free (s : State) (x : NotificationQueue) : (s.withNq x).free = s.free := rfl
@[simp] theorem State.withNq_ct (s : State) (x : NotificationQueue) : (s.withNq x).ct = s.ct := rfl
@[simp] theorem State.withNq_rtu (s : State) (x : NotificationQueue) : (s.withNq x).rtu = s.rtu := rfl
@[simp] theorem State.withNq_out (s : State) (x : NotificationQueue) : (s.withNq x).out = s.out := rfl
@[simp] theorem State.withNq_comp (s : State) (x : NotificationQueue) : (s.withNq x).comp = s.comp := rfl
@[simp] theorem State.withNq_sf (s : State) (x : NotificationQueue) : (s.withNq x).sf = s.sf := rfl
@[simp] theorem State.withNq_os (s : State) (x : NotificationQueue) : (s.withNq x).os = s.os := rfl
@[simp] theorem State.withNq_mon (s : State) (x : NotificationQueue) : (s.withNq x).mon = s.mon := rfl
@[simp] theorem State.withNq_mlu (s : State) (x : NotificationQueue) : (s.withNq x).mlu = s.mlu := rfl
@[simp] theorem State.withNq_ce (s : State) (x : NotificationQueue) : (s.withNq x).ce = s.ce := rfl
@[simp] theorem State.withNq_nq (s : State) (x : NotificationQueue) : (s.withNq x).nq = x := rfl

/-! ### withNow -/

@[simp] theorem State.withNow_pending (s : State) (x : Nat) : (s.withNow x).pending = s.pending := rfl
@[simp] theorem State.withNow_resetLow (s : State) (x : Nat) : (s.withNow x).resetLow = s.resetLow := rfl
@[simp] theorem State.withNow_now (s : State) (x : Nat) : (s.withNow x).now = x := rfl
@[simp] theorem State.withNow_free (s : State) (x : Nat) : (s.withNow x).free = s.free := rfl
@[simp] theorem State.withNow_ct (s : State) (x : Nat) : (s.withNow x).ct = s.ct := rfl
@[simp] theorem State.withNow_rtu (s : State) (x : Nat) : (s.withNow x).rtu = s.rtu := rfl
@[simp] theorem State.withNow_out (s : State) (x : Nat) : (s.withNow x).out = s.out := rfl
@[simp] theorem State.withNow_comp (s : State) (x : Nat) : (s.withNow x).comp = s.comp := rfl
@[simp] theorem State.withNow_sf (s : State) (x : Nat) : (s.withNow x).sf = s.sf := rfl
@[simp] theorem State.withNow_os (s : State) (x : Nat) : (s.withNow x).os = s.os := rfl
@[simp] theorem State.withNow_mon (s : State) (x : Nat) : (s.withNow x).mon = s.mon := rfl
@[simp] theorem State.withNow_mlu (s : State) (x : Nat) : (s.withNow x).mlu = s.mlu := rfl
@[simp] theorem State.withNow_ce (s : State) (x : Nat) : (s.withNow x).ce = s.ce := rfl
@[simp] theorem State.withNow_nq (s : State) (x : Nat) : (s.withNow x).nq = s.nq := rfl

/-! ### withFree -/

@[simp] theorem State.withFree_pending (s : State) (x : Nat) : (s.withFree x).pending = s.pending := rfl
@[simp] theorem State.withFree_resetLow (s : State) (x : Nat) : (s.withFree x).resetLow = s.resetLow := rfl
@[simp] theorem State.withFree_now (s : State) (x : Nat) : (s.withFree x).now = s.now := rfl
@[simp] theorem State.withFree_free (s : State) (x : Nat) : (s.withFree x).free = x := rfl
@[simp] theorem State.withFree_ct (s : State) (x : Nat) : (s.withFree x).ct = s.ct := rfl
@[simp] theorem State.withFree_rtu (s : State) (x : Nat) : (s.withFree x).rtu = s.rtu := rfl
@[simp] theorem State.withFree_out (s : State) (x : Nat) : (s.withFree x).out = s.out := rfl
@[simp] theorem State.withFree_comp (s : State) (x : Nat) : (s.withFree x).comp = s.comp := rfl
@[simp] theorem State.withFree_sf (s : State) (x : Nat) : (s.withFree x).sf = s.sf := rfl
@[simp] theorem State.withFree_os (s : State) (x : Nat) : (s.withFree x).os = s.os := rfl
@[simp] theorem State.withFree_mon (s : State) (x : Nat) : (s.withFree x).mon = s.mon := rfl
@[simp] theorem State.withFree_mlu (s : State) (x : Nat) : (s.withFree x).mlu = s.mlu := rfl
@[simp] theorem State.withFree_ce (s : State) (x : Nat) : (s.withFree x).ce = s.ce := rfl
@[simp] theorem State.withFree_nq (s : State) (x : Nat) : (s.withFree x).nq = s.nq := rfl

/-! ### withResetLow -/

@[simp] theorem State.withResetLow_pending (s : State) (x : Bool) : (s.withResetLow x).pending = s.pending := rfl
@[simp] theorem State.withResetLow_resetLow (s : State) (x : Bool) : (s.withResetLow x).resetLow = x := rfl
@[simp] theorem State.withResetLow_now (s : State) (x : Bool) : (s.withResetLow x).now = s.now := rfl
@[simp] theorem State.withResetLow_free (s : State) (x : Bool) : (s.withResetLow x).free = s.free := rfl
@[simp] theorem State.withResetLow_ct (s : State) (x : Bool) : (s.withResetLow x).ct = s.ct := rfl
@[simp] theorem State.withResetLow_rtu (s : State) (x : Bool) : (s.withResetLow x).rtu = s.rtu := rfl
@[simp] theorem State.withResetLow_out (s : State) (x : Bool) : (s.withResetLow x).out = s.out := rfl
@[simp] theorem State.withResetLow_comp (s : State) (x : Bool) : (s.withResetLow x).comp = s.comp := rfl
@[simp] theorem State.withResetLow_sf (s : State) (x : Bool) : (s.withResetLow x).sf = s.sf := rfl
@[simp] theorem State.withResetLow_os (s : State) (x : Bool) : (s.withResetLow x).os = s.os := rfl
@[simp] theorem State.withResetLow_mon (s : State) (x : Bool) : (s.withResetLow x).mon = s.mon := rfl
@[simp] theorem State.withResetLow_mlu (s : State) (x : Bool) : (s.withResetLow x).mlu = s.mlu := rfl
@[simp] theorem State.withResetLow_ce (s : State) (x : Bool) : (s.withResetLow x).ce = s.ce := rfl
@[simp] theorem State.withResetLow_nq (s : State) (x : Bool) : (s.withResetLow x).nq = s.nq := rfl

/-! ### advanceTo and setMonitor -/

@[simp] theorem State.advanceTo_pending (s : State) (t : Nat) : (s.advanceTo t).pending = s.pending := rfl
@[simp] theorem State.advanceTo_resetLow (s : State) (t : Nat) : (s.advanceTo t).resetLow = s.resetLow := rfl
@[simp] theorem State.advanceTo_now (s : State) (t : Nat) : (s.advanceTo t).now = max s.now t := rfl
@[simp] theorem State.advanceTo_free (s : State) (t : Nat) : (s.advanceTo t).free = s.free := rfl
@[simp] theorem State.advanceTo_ct (s : State) (t : Nat) : (s.advanceTo t).ct = s.ct := rfl
@[simp] theorem State.advanceTo_rtu (s : State) (t : Nat) : (s.advanceTo t).rtu = s.rtu := rfl
@[simp] theorem State.advanceTo_out (s : State) (t : Nat) : (s.advanceTo t).out = s.out := rfl
@[simp] theorem State.advanceTo_comp (s : State) (t : Nat) : (s.advanceTo t).comp = s.comp := rfl
@[simp] theorem State.advanceTo_sf (s : State) (t : Nat) : (s.advanceTo t).sf = s.sf := rfl
@[simp] theorem State.advanceTo_os (s : State) (t : Nat) : (s.advanceTo t).os = s.os := rfl
@[simp] theorem State.advanceTo_mon (s : State) (t : Nat) : (s.advanceTo t).mon = s.mon := rfl
@[simp] theorem State.advanceTo_mlu (s : State) (t : Nat) : (s.advanceTo t).mlu = s.mlu := rfl
@[simp] theorem State.advanceTo_ce (s : State) (t : Nat) : (s.advanceTo t).ce = s.ce := rfl
@[simp] theorem State.advanceTo_nq (s : State) (t : Nat) : (s.advanceTo t).nq = s.nq := rfl

@[simp] theorem State.setMonitor_pending (s : State) (i : Nat) (m : Monitor) :
    (s.setMonitor i m).pending = s.pending := rfl
@[simp] theorem State.setMonitor_resetLow (s : State) (i : Nat) (m : Monitor) :
    (s.setMonitor i m).resetLow = s.resetLow := rfl
@[simp] theorem State.setMonitor_now (s : State) (i : Nat) (m : Monitor) :
    (s.setMonitor i m).now = s.now := rfl
@[simp] theorem State.setMonitor_free (s : State) (i : Nat) (m : Monitor) :
    (s.setMonitor i m).free = s.free := rfl
@[simp] theorem State.setMonitor_ct (s : State) (i : Nat) (m : Monitor) :
    (s.setMonitor i m).ct = s.ct := rfl
@[simp] theorem State.setMonitor_rtu (s : State) (i : Nat) (m : Monitor) :
    (s.setMonitor i m).rtu = s.rtu := rfl
@[simp] theorem State.setMonitor_out (s : State) (i : Nat) (m : Monitor) :
    (s.setMonitor i m).out = s.out := rfl
@[simp] theorem State.setMonitor_comp (s : State) (i : Nat) (m : Monitor) :
    (s.setMonitor i m).comp = s.comp := rfl
@[simp] theorem State.setMonitor_sf (s : State) (i : Nat) (m : Monitor) :
    (s.setMonitor i m).sf = s.sf := rfl
@[simp] theorem State.setMonitor_os (s : State) (i : Nat) (m : Monitor) :
    (s.setMonitor i m).os = s.os := rfl
@[simp] theorem State.setMonitor_mon (s : State) (i : Nat) (m : Monitor) :
    (s.setMonitor i m).mon = { s.mon with monitors := s.mon.monitors.set i m } := rfl
@[simp] theorem State.setMonitor_mlu (s : State) (i : Nat) (m : Monitor) :
    (s.setMonitor i m).mlu = s.mlu := rfl
@[simp] theorem State.setMonitor_ce (s : State) (i : Nat) (m : Monitor) :
    (s.setMonitor i m).ce = s.ce := rfl
@[simp] theorem State.setMonitor_nq (s : State) (i : Nat) (m : Monitor) :
    (s.setMonitor i m).nq = s.nq := rfl

end Sys2Proof.Machine
end

