-- ==== Sys2Proof/Laws/Order.lean ====
section
/-! SUPPORT. Acts of one moment: what a run of acts keeps, and which orders `interleaved` allows. -/

namespace Sys2Proof.Machine

/-! ### Runs of acts -/

@[simp] theorem runActs_nil {α : Type} (a : α) : runActs [] a = a := rfl

@[simp] theorem runActs_cons {α : Type} (act : α → α) (acts : List (α → α)) (a : α) :
    runActs (act :: acts) a = runActs acts (act a) := rfl

@[simp] theorem runActs_append {α : Type} (xs ys : List (α → α)) (a : α) :
    runActs (xs ++ ys) a = runActs ys (runActs xs a) := List.foldl_append

/-- What every act keeps, the run keeps. -/
theorem runActs_keeps {α β : Type} {f : α → β} {acts : List (α → α)}
    (h : ∀ act ∈ acts, ∀ x, f (act x) = f x) (a : α) : f (runActs acts a) = f a := by
  induction acts generalizing a with
  | nil => rfl
  | cons act acts ih =>
    rw [runActs_cons, ih fun b hb => h b (List.mem_cons_of_mem _ hb)]
    exact h act List.mem_cons_self a

/-- A property that every act hands on holds after the run. -/
theorem runActs_induct {α : Type} {P : α → Prop} {acts : List (α → α)}
    (h : ∀ act ∈ acts, ∀ x, P x → P (act x)) {a : α} (ha : P a) : P (runActs acts a) := by
  induction acts generalizing a with
  | nil => exact ha
  | cons act acts ih =>
    exact ih (fun b hb => h b (List.mem_cons_of_mem _ hb)) (h act List.mem_cons_self a ha)

/-! ### Orders -/

/-- An interleaving loses and adds nothing, and each block's own order stands. -/
theorem interleave_spec {α : Type} (fuel n : Nat) (xs ys : List α) :
    (interleave fuel n xs ys).Perm (xs ++ ys) ∧ xs.Sublist (interleave fuel n xs ys) ∧
      ys.Sublist (interleave fuel n xs ys) := by
  induction fuel generalizing n xs ys with
  | zero => simp [interleave]
  | succ fuel ih =>
    match xs, ys with
    | [], ys => simp [interleave]
    | x :: xs, [] => simp [interleave]
    | x :: xs, y :: ys =>
      obtain ⟨h1, h2, h3⟩ := ih (n + 1) xs (y :: ys)
      obtain ⟨k1, k2, k3⟩ := ih (n + 1) (x :: xs) ys
      unfold interleave
      split_ifs
      · exact ⟨h1.cons x, h2.cons_cons x, h3.cons x⟩
      · exact ⟨(k1.cons y).trans List.perm_middle.symm, k2.cons y, k3.cons_cons y⟩

/-- `interleaved` loses and adds nothing, and each block's own order stands. -/
theorem interleaved_spec {α : Type} (xs ys : List α) (s : State) :
    (interleaved xs ys s).1.Perm (xs ++ ys) ∧ xs.Sublist (interleaved xs ys s).1 ∧
      ys.Sublist (interleaved xs ys s).1 := by
  unfold interleaved
  split_ifs
  · simp
  · exact interleave_spec _ _ _ _

/-- What is interleaved stands in one of the two lists. -/
theorem mem_interleaved {α : Type} {xs ys : List α} {s : State} {x : α} :
    x ∈ (interleaved xs ys s).1 ↔ x ∈ xs ∨ x ∈ ys := by
  rw [(interleaved_spec xs ys s).1.mem_iff, List.mem_append]

@[simp] theorem interleaved_nil_left {α : Type} (ys : List α) (s : State) :
    interleaved [] ys s = (ys, s) := by simp [interleaved]

@[simp] theorem interleaved_nil_right {α : Type} (xs : List α) (s : State) :
    interleaved xs [] s = (xs, s) := by simp [interleaved]

/-! ### Acts that leave the waiting commands, RESET and the clock -/

/-- No act touches the queue of waiting commands, RESET or the clock. -/
def Quiet (acts : List (State → State)) : Prop :=
  ∀ act ∈ acts, ∀ t,
    (act t).pending = t.pending ∧ (act t).resetLow = t.resetLow ∧ (act t).now = t.now

@[simp] theorem quiet_nil : Quiet [] := by simp [Quiet]

@[simp] theorem quiet_cons (act : State → State) (acts : List (State → State)) :
    Quiet (act :: acts) ↔ (∀ t, (act t).pending = t.pending ∧ (act t).resetLow = t.resetLow ∧
      (act t).now = t.now) ∧ Quiet acts := by simp [Quiet]

@[simp] theorem quiet_append (xs ys : List (State → State)) :
    Quiet (xs ++ ys) ↔ Quiet xs ∧ Quiet ys := List.forall_mem_append

@[simp] theorem quiet_interleaved (xs ys : List (State → State)) (s : State) :
    Quiet (interleaved xs ys s).1 ↔ Quiet xs ∧ Quiet ys := by
  rw [← quiet_append]
  unfold Quiet
  simp only [(interleaved_spec xs ys s).1.mem_iff]

/-- A run of quiet acts is quiet. -/
@[simp] theorem Quiet.run {acts : List (State → State)} (h : Quiet acts) (t : State) :
    (runActs acts t).pending = t.pending ∧ (runActs acts t).resetLow = t.resetLow ∧
      (runActs acts t).now = t.now :=
  ⟨runActs_keeps (fun a ha x => (h a ha x).1) t, runActs_keeps (fun a ha x => (h a ha x).2.1) t,
    runActs_keeps (fun a ha x => (h a ha x).2.2) t⟩

end Sys2Proof.Machine
end

