-- ==== Sys2Proof/Laws/Frames.lean ====
section
/-! SUPPORT. What each shared operation leaves as it is: one lemma per operation, a rewrite for every
field of State that the operation does not touch. -/

namespace Sys2Proof.Machine

/-! ### Offers (R183) -/

@[simp] theorem offerWith_keeps (frame : BitVec 16) (n : Notice) (s : State) :
    (offerWith frame n s).pending = s.pending ∧ (offerWith frame n s).resetLow = s.resetLow ∧
    (offerWith frame n s).now = s.now ∧ (offerWith frame n s).free = s.free ∧
    (offerWith frame n s).ct = s.ct ∧ (offerWith frame n s).rtu = s.rtu ∧
    (offerWith frame n s).out = s.out ∧ (offerWith frame n s).comp = s.comp ∧
    (offerWith frame n s).sf = s.sf ∧ (offerWith frame n s).os = s.os ∧
    (offerWith frame n s).mon = s.mon ∧ (offerWith frame n s).mlu = s.mlu ∧
    (offerWith frame n s).ce = s.ce := by
  unfold offerWith; split_ifs <;> simp

@[simp] theorem offer_keeps (n : Notice) (s : State) :
    (offer n s).pending = s.pending ∧ (offer n s).resetLow = s.resetLow ∧
    (offer n s).now = s.now ∧ (offer n s).free = s.free ∧ (offer n s).ct = s.ct ∧
    (offer n s).rtu = s.rtu ∧ (offer n s).out = s.out ∧ (offer n s).comp = s.comp ∧
    (offer n s).sf = s.sf ∧ (offer n s).os = s.os ∧ (offer n s).mon = s.mon ∧
    (offer n s).mlu = s.mlu ∧ (offer n s).ce = s.ce := by
  simp [offer]

@[simp] theorem offerAll_keeps (ns : List Notice) (s : State) :
    (offerAll ns s).pending = s.pending ∧ (offerAll ns s).resetLow = s.resetLow ∧
    (offerAll ns s).now = s.now ∧ (offerAll ns s).free = s.free ∧ (offerAll ns s).ct = s.ct ∧
    (offerAll ns s).rtu = s.rtu ∧ (offerAll ns s).out = s.out ∧ (offerAll ns s).comp = s.comp ∧
    (offerAll ns s).sf = s.sf ∧ (offerAll ns s).os = s.os ∧ (offerAll ns s).mon = s.mon ∧
    (offerAll ns s).mlu = s.mlu ∧ (offerAll ns s).ce = s.ce := by
  induction ns generalizing s with
  | nil => simp [offerAll]
  | cons n ns ih => have := ih (offer n s); simp_all [offerAll]

/-! ### Flags -/

@[simp] theorem clearCounters_keeps (s : State) :
    (clearCounters s).pending = s.pending ∧ (clearCounters s).resetLow = s.resetLow ∧
    (clearCounters s).now = s.now ∧ (clearCounters s).free = s.free ∧
    (clearCounters s).ct = s.ct ∧ (clearCounters s).out = s.out ∧
    (clearCounters s).comp = s.comp ∧ (clearCounters s).os = s.os ∧ (clearCounters s).mon = s.mon := by
  simp [clearCounters]

@[simp] theorem discardCommand_keeps (s : State) :
    (discardCommand s).pending = s.pending ∧ (discardCommand s).resetLow = s.resetLow ∧
    (discardCommand s).now = s.now ∧ (discardCommand s).free = s.free ∧
    (discardCommand s).ct = s.ct ∧ (discardCommand s).rtu = s.rtu ∧
    (discardCommand s).out = s.out ∧ (discardCommand s).comp = s.comp ∧
    (discardCommand s).sf = s.sf ∧ (discardCommand s).os = s.os ∧ (discardCommand s).mon = s.mon ∧
    (discardCommand s).mlu = s.mlu ∧ (discardCommand s).nq = s.nq := by
  simp [discardCommand]

/-! ### Edits (chapter 2) -/

@[simp] theorem discardEdit_keeps (s : State) :
    (discardEdit s).pending = s.pending ∧ (discardEdit s).resetLow = s.resetLow ∧
    (discardEdit s).now = s.now ∧ (discardEdit s).free = s.free ∧ (discardEdit s).rtu = s.rtu ∧
    (discardEdit s).out = s.out ∧ (discardEdit s).comp = s.comp ∧ (discardEdit s).sf = s.sf ∧
    (discardEdit s).os = s.os ∧ (discardEdit s).mon = s.mon ∧ (discardEdit s).mlu = s.mlu ∧
    (discardEdit s).ce = s.ce ∧ (discardEdit s).nq = s.nq := by
  simp [discardEdit]

@[simp] theorem requestCommit_keeps (s : State) :
    (requestCommit s).pending = s.pending ∧ (requestCommit s).resetLow = s.resetLow ∧
    (requestCommit s).now = s.now ∧ (requestCommit s).free = s.free ∧
    (requestCommit s).rtu = s.rtu ∧ (requestCommit s).out = s.out ∧
    (requestCommit s).comp = s.comp ∧ (requestCommit s).sf = s.sf ∧ (requestCommit s).os = s.os ∧
    (requestCommit s).mon = s.mon ∧ (requestCommit s).mlu = s.mlu ∧ (requestCommit s).ce = s.ce ∧
    (requestCommit s).nq = s.nq := by
  simp [requestCommit]

@[simp] theorem applyCommit_keeps (s : State) :
    (applyCommit s).pending = s.pending ∧ (applyCommit s).resetLow = s.resetLow ∧
    (applyCommit s).now = s.now ∧ (applyCommit s).free = s.free ∧ (applyCommit s).rtu = s.rtu ∧
    (applyCommit s).out = s.out ∧ (applyCommit s).comp = s.comp ∧ (applyCommit s).sf = s.sf ∧
    (applyCommit s).os = s.os ∧ (applyCommit s).mon = s.mon ∧ (applyCommit s).mlu = s.mlu ∧
    (applyCommit s).ce = s.ce ∧ (applyCommit s).nq = s.nq := by
  simp [applyCommit]

@[simp] theorem resetCt_keeps (s : State) :
    (resetCt s).pending = s.pending ∧ (resetCt s).resetLow = s.resetLow ∧
    (resetCt s).now = s.now ∧ (resetCt s).free = s.free ∧ (resetCt s).rtu = s.rtu ∧
    (resetCt s).out = s.out ∧ (resetCt s).comp = s.comp ∧ (resetCt s).sf = s.sf ∧
    (resetCt s).os = s.os ∧ (resetCt s).mon = s.mon ∧ (resetCt s).mlu = s.mlu ∧
    (resetCt s).ce = s.ce ∧ (resetCt s).nq = s.nq := by
  simp [resetCt]

@[simp] theorem putRegion_keeps (i : Nat) (r : Region) (s : State) :
    (putRegion i r s).pending = s.pending ∧ (putRegion i r s).resetLow = s.resetLow ∧
    (putRegion i r s).now = s.now ∧ (putRegion i r s).free = s.free ∧
    (putRegion i r s).rtu = s.rtu ∧ (putRegion i r s).out = s.out ∧
    (putRegion i r s).comp = s.comp ∧ (putRegion i r s).sf = s.sf ∧ (putRegion i r s).os = s.os ∧
    (putRegion i r s).mon = s.mon ∧ (putRegion i r s).mlu = s.mlu ∧ (putRegion i r s).ce = s.ce ∧
    (putRegion i r s).nq = s.nq := by
  simp [putRegion]

@[simp] theorem openEdit_keeps (n : Nat) (s : State) :
    (openEdit n s).pending = s.pending ∧ (openEdit n s).resetLow = s.resetLow ∧
    (openEdit n s).now = s.now ∧ (openEdit n s).free = s.free ∧ (openEdit n s).rtu = s.rtu ∧
    (openEdit n s).out = s.out ∧ (openEdit n s).comp = s.comp ∧ (openEdit n s).sf = s.sf ∧
    (openEdit n s).os = s.os ∧ (openEdit n s).mon = s.mon ∧ (openEdit n s).mlu = s.mlu ∧
    (openEdit n s).ce = s.ce ∧ (openEdit n s).nq = s.nq := by
  simp [openEdit]

@[simp] theorem expireEdit_keeps (s : State) :
    (expireEdit s).pending = s.pending ∧ (expireEdit s).resetLow = s.resetLow ∧
    (expireEdit s).now = s.now ∧ (expireEdit s).free = s.free ∧ (expireEdit s).rtu = s.rtu ∧
    (expireEdit s).out = s.out ∧ (expireEdit s).comp = s.comp ∧ (expireEdit s).sf = s.sf ∧
    (expireEdit s).os = s.os ∧ (expireEdit s).mon = s.mon ∧ (expireEdit s).mlu = s.mlu ∧
    (expireEdit s).ce = s.ce := by
  simp [expireEdit]

@[simp] theorem countEdit_keeps (s : State) :
    (countEdit s).pending = s.pending ∧ (countEdit s).resetLow = s.resetLow ∧
    (countEdit s).now = s.now ∧ (countEdit s).free = s.free ∧ (countEdit s).rtu = s.rtu ∧
    (countEdit s).out = s.out ∧ (countEdit s).comp = s.comp ∧ (countEdit s).sf = s.sf ∧
    (countEdit s).os = s.os ∧ (countEdit s).mon = s.mon ∧ (countEdit s).mlu = s.mlu ∧
    (countEdit s).ce = s.ce := by
  unfold countEdit; split_ifs <;> simp

/-! ### Monitoring (chapter 7) -/

@[simp] theorem accumulateLine_keeps (y : Nat) (words : List Pixel) (s : State) :
    (accumulateLine y words s).pending = s.pending ∧
    (accumulateLine y words s).resetLow = s.resetLow ∧ (accumulateLine y words s).now = s.now ∧
    (accumulateLine y words s).free = s.free ∧ (accumulateLine y words s).ct = s.ct ∧
    (accumulateLine y words s).rtu = s.rtu ∧ (accumulateLine y words s).out = s.out ∧
    (accumulateLine y words s).comp = s.comp ∧ (accumulateLine y words s).sf = s.sf ∧
    (accumulateLine y words s).os = s.os ∧ (accumulateLine y words s).mlu = s.mlu ∧
    (accumulateLine y words s).ce = s.ce ∧ (accumulateLine y words s).nq = s.nq := by
  unfold accumulateLine; split_ifs <;> simp

@[simp] theorem beginMeasurement_keeps (s : State) :
    (beginMeasurement s).pending = s.pending ∧ (beginMeasurement s).resetLow = s.resetLow ∧
    (beginMeasurement s).now = s.now ∧ (beginMeasurement s).free = s.free ∧
    (beginMeasurement s).ct = s.ct ∧ (beginMeasurement s).rtu = s.rtu ∧
    (beginMeasurement s).out = s.out ∧ (beginMeasurement s).comp = s.comp ∧
    (beginMeasurement s).sf = s.sf ∧ (beginMeasurement s).os = s.os ∧
    (beginMeasurement s).mlu = s.mlu ∧ (beginMeasurement s).ce = s.ce ∧
    (beginMeasurement s).nq = s.nq := by
  simp [beginMeasurement]

@[simp] theorem spoilMeasurement_keeps (s : State) :
    (spoilMeasurement s).pending = s.pending ∧ (spoilMeasurement s).resetLow = s.resetLow ∧
    (spoilMeasurement s).now = s.now ∧ (spoilMeasurement s).free = s.free ∧
    (spoilMeasurement s).ct = s.ct ∧ (spoilMeasurement s).rtu = s.rtu ∧
    (spoilMeasurement s).out = s.out ∧ (spoilMeasurement s).comp = s.comp ∧
    (spoilMeasurement s).sf = s.sf ∧ (spoilMeasurement s).os = s.os ∧
    (spoilMeasurement s).mlu = s.mlu ∧ (spoilMeasurement s).ce = s.ce ∧
    (spoilMeasurement s).nq = s.nq := by
  unfold spoilMeasurement; split_ifs <;> simp

@[simp] theorem clearMonitors_keeps (list : List Nat) (s : State) :
    (clearMonitors list s).pending = s.pending ∧ (clearMonitors list s).resetLow = s.resetLow ∧
    (clearMonitors list s).now = s.now ∧ (clearMonitors list s).free = s.free ∧
    (clearMonitors list s).ct = s.ct ∧ (clearMonitors list s).rtu = s.rtu ∧
    (clearMonitors list s).out = s.out ∧ (clearMonitors list s).comp = s.comp ∧
    (clearMonitors list s).sf = s.sf ∧ (clearMonitors list s).os = s.os ∧
    (clearMonitors list s).mlu = s.mlu ∧ (clearMonitors list s).ce = s.ce ∧
    (clearMonitors list s).nq = s.nq := by
  simp [clearMonitors]

@[simp] theorem latchLevel_keeps (i : Nat) (m : Measurement) (s : State) :
    (latchLevel i m s).pending = s.pending ∧ (latchLevel i m s).resetLow = s.resetLow ∧
    (latchLevel i m s).now = s.now ∧ (latchLevel i m s).free = s.free ∧
    (latchLevel i m s).ct = s.ct ∧ (latchLevel i m s).rtu = s.rtu ∧
    (latchLevel i m s).out = s.out ∧ (latchLevel i m s).comp = s.comp ∧
    (latchLevel i m s).sf = s.sf ∧ (latchLevel i m s).os = s.os ∧ (latchLevel i m s).mlu = s.mlu ∧
    (latchLevel i m s).ce = s.ce := by
  simp only [latchLevel]; split <;> (try split_ifs) <;> simp

@[simp] theorem reportStillness_keeps (i : Nat) (s : State) :
    (reportStillness i s).pending = s.pending ∧ (reportStillness i s).resetLow = s.resetLow ∧
    (reportStillness i s).now = s.now ∧ (reportStillness i s).free = s.free ∧
    (reportStillness i s).ct = s.ct ∧ (reportStillness i s).rtu = s.rtu ∧
    (reportStillness i s).out = s.out ∧ (reportStillness i s).comp = s.comp ∧
    (reportStillness i s).sf = s.sf ∧ (reportStillness i s).os = s.os ∧
    (reportStillness i s).mlu = s.mlu ∧ (reportStillness i s).ce = s.ce := by
  simp only [reportStillness]; split_ifs <;> simp

@[simp] theorem latchStillness_keeps (i : Nat) (q : Option Measurement) (m : Measurement)
    (s : State) :
    (latchStillness i q m s).pending = s.pending ∧
    (latchStillness i q m s).resetLow = s.resetLow ∧ (latchStillness i q m s).now = s.now ∧
    (latchStillness i q m s).free = s.free ∧ (latchStillness i q m s).ct = s.ct ∧
    (latchStillness i q m s).rtu = s.rtu ∧ (latchStillness i q m s).out = s.out ∧
    (latchStillness i q m s).comp = s.comp ∧ (latchStillness i q m s).sf = s.sf ∧
    (latchStillness i q m s).os = s.os ∧ (latchStillness i q m s).mlu = s.mlu ∧
    (latchStillness i q m s).ce = s.ce := by
  unfold latchStillness; split_ifs <;> simp

@[simp] theorem latchReport_keeps (i : Nat) (m : Measurement) (s : State) :
    (latchReport i m s).pending = s.pending ∧ (latchReport i m s).resetLow = s.resetLow ∧
    (latchReport i m s).now = s.now ∧ (latchReport i m s).free = s.free ∧
    (latchReport i m s).ct = s.ct ∧ (latchReport i m s).rtu = s.rtu ∧
    (latchReport i m s).out = s.out ∧ (latchReport i m s).comp = s.comp ∧
    (latchReport i m s).sf = s.sf ∧ (latchReport i m s).os = s.os ∧
    (latchReport i m s).mlu = s.mlu ∧ (latchReport i m s).ce = s.ce := by
  simp only [latchReport]; split_ifs <;> simp

theorem latchActs_each (s : State) (i : Nat) :
    ∀ act ∈ latchActs s i, ∀ t,
    (act t).pending = t.pending ∧ (act t).resetLow = t.resetLow ∧ (act t).now = t.now ∧
    (act t).free = t.free ∧ (act t).ct = t.ct ∧ (act t).rtu = t.rtu ∧ (act t).out = t.out ∧
    (act t).comp = t.comp ∧ (act t).sf = t.sf ∧ (act t).os = t.os ∧ (act t).mlu = t.mlu ∧
    (act t).ce = t.ce := by
  simp only [latchActs]; split_ifs <;> simp

@[simp] theorem latchActs_run (s : State) (i : Nat) (t : State) :
    (runActs (latchActs s i) t).pending = t.pending ∧
    (runActs (latchActs s i) t).resetLow = t.resetLow ∧ (runActs (latchActs s i) t).now = t.now ∧
    (runActs (latchActs s i) t).free = t.free ∧ (runActs (latchActs s i) t).ct = t.ct ∧
    (runActs (latchActs s i) t).rtu = t.rtu ∧ (runActs (latchActs s i) t).out = t.out ∧
    (runActs (latchActs s i) t).comp = t.comp ∧ (runActs (latchActs s i) t).sf = t.sf ∧
    (runActs (latchActs s i) t).os = t.os ∧ (runActs (latchActs s i) t).mlu = t.mlu ∧
    (runActs (latchActs s i) t).ce = t.ce := by
  refine ⟨?_, ?_, ?_, ?_, ?_, ?_, ?_, ?_, ?_, ?_, ?_, ?_⟩ <;>
    exact runActs_keeps (fun act h x => by simp [latchActs_each s i act h x]) t

theorem frameEndActs_each (s : State) :
    ∀ act ∈ frameEndActs s, ∀ t,
    (act t).pending = t.pending ∧ (act t).resetLow = t.resetLow ∧ (act t).now = t.now ∧
    (act t).free = t.free ∧ (act t).ct = t.ct ∧ (act t).rtu = t.rtu ∧ (act t).out = t.out ∧
    (act t).comp = t.comp ∧ (act t).sf = t.sf ∧ (act t).os = t.os ∧ (act t).mlu = t.mlu ∧
    (act t).ce = t.ce := by
  have h := latchActs_each s
  unfold frameEndActs
  split_ifs
  · simp only [List.mem_cons, List.mem_flatMap, forall_eq_or_imp]
    exact ⟨by simp, fun act ⟨i, _, ha⟩ => h i act ha⟩
  · simp
  · simp

@[simp] theorem frameEndActs_run (s : State) (t : State) :
    (runActs (frameEndActs s) t).pending = t.pending ∧
    (runActs (frameEndActs s) t).resetLow = t.resetLow ∧
    (runActs (frameEndActs s) t).now = t.now ∧ (runActs (frameEndActs s) t).free = t.free ∧
    (runActs (frameEndActs s) t).ct = t.ct ∧ (runActs (frameEndActs s) t).rtu = t.rtu ∧
    (runActs (frameEndActs s) t).out = t.out ∧ (runActs (frameEndActs s) t).comp = t.comp ∧
    (runActs (frameEndActs s) t).sf = t.sf ∧ (runActs (frameEndActs s) t).os = t.os ∧
    (runActs (frameEndActs s) t).mlu = t.mlu ∧ (runActs (frameEndActs s) t).ce = t.ce := by
  refine ⟨?_, ?_, ?_, ?_, ?_, ?_, ?_, ?_, ?_, ?_, ?_, ?_⟩ <;>
    exact runActs_keeps (fun act h x => by simp [frameEndActs_each s act h x]) t

@[simp] theorem discardMeasurement_keeps (s : State) :
    (discardMeasurement s).pending = s.pending ∧ (discardMeasurement s).resetLow = s.resetLow ∧
    (discardMeasurement s).now = s.now ∧ (discardMeasurement s).free = s.free ∧
    (discardMeasurement s).ct = s.ct ∧ (discardMeasurement s).rtu = s.rtu ∧
    (discardMeasurement s).out = s.out ∧ (discardMeasurement s).comp = s.comp ∧
    (discardMeasurement s).sf = s.sf ∧ (discardMeasurement s).os = s.os ∧
    (discardMeasurement s).mlu = s.mlu ∧ (discardMeasurement s).ce = s.ce ∧
    (discardMeasurement s).nq = s.nq := by
  unfold discardMeasurement; split_ifs <;> simp

/-! ### Arbiter and spans (chapters 5 and 6) -/

@[simp] theorem grantStore_keeps (s : State) :
    (grantStore s).pending = s.pending ∧ (grantStore s).resetLow = s.resetLow ∧
    (grantStore s).now = s.now ∧ (grantStore s).free = s.free ∧ (grantStore s).ct = s.ct ∧
    (grantStore s).rtu = s.rtu ∧ (grantStore s).out = s.out ∧ (grantStore s).comp = s.comp ∧
    (grantStore s).sf = s.sf ∧ (grantStore s).mon = s.mon ∧ (grantStore s).mlu = s.mlu ∧
    (grantStore s).ce = s.ce ∧ (grantStore s).nq = s.nq := by
  simp [grantStore]

@[simp] theorem requestSpan_keeps (s : State) :
    (requestSpan s).pending = s.pending ∧ (requestSpan s).resetLow = s.resetLow ∧
    (requestSpan s).now = s.now ∧ (requestSpan s).free = s.free ∧ (requestSpan s).ct = s.ct ∧
    (requestSpan s).rtu = s.rtu ∧ (requestSpan s).out = s.out ∧ (requestSpan s).comp = s.comp ∧
    (requestSpan s).sf = s.sf ∧ (requestSpan s).mon = s.mon ∧ (requestSpan s).mlu = s.mlu ∧
    (requestSpan s).ce = s.ce ∧ (requestSpan s).nq = s.nq := by
  simp [requestSpan]

@[simp] theorem emptyRecord_keeps (s : State) :
    (emptyRecord s).pending = s.pending ∧ (emptyRecord s).resetLow = s.resetLow ∧
    (emptyRecord s).now = s.now ∧ (emptyRecord s).free = s.free ∧ (emptyRecord s).ct = s.ct ∧
    (emptyRecord s).rtu = s.rtu ∧ (emptyRecord s).out = s.out ∧ (emptyRecord s).comp = s.comp ∧
    (emptyRecord s).sf = s.sf ∧ (emptyRecord s).mon = s.mon ∧ (emptyRecord s).mlu = s.mlu ∧
    (emptyRecord s).ce = s.ce ∧ (emptyRecord s).nq = s.nq := by
  simp [emptyRecord]

@[simp] theorem startFetch_keeps (t : Nat) (s : State) :
    (startFetch t s).pending = s.pending ∧ (startFetch t s).resetLow = s.resetLow ∧
    (startFetch t s).now = s.now ∧ (startFetch t s).free = s.free ∧ (startFetch t s).ct = s.ct ∧
    (startFetch t s).rtu = s.rtu ∧ (startFetch t s).out = s.out ∧ (startFetch t s).comp = s.comp ∧
    (startFetch t s).mon = s.mon ∧ (startFetch t s).mlu = s.mlu ∧ (startFetch t s).ce = s.ce ∧
    (startFetch t s).nq = s.nq := by
  simp [startFetch]

@[simp] theorem discardSpanBurst_keeps (s : State) :
    (discardSpanBurst s).pending = s.pending ∧ (discardSpanBurst s).resetLow = s.resetLow ∧
    (discardSpanBurst s).now = s.now ∧ (discardSpanBurst s).free = s.free ∧
    (discardSpanBurst s).ct = s.ct ∧ (discardSpanBurst s).rtu = s.rtu ∧
    (discardSpanBurst s).out = s.out ∧ (discardSpanBurst s).comp = s.comp ∧
    (discardSpanBurst s).sf = s.sf ∧ (discardSpanBurst s).mon = s.mon ∧
    (discardSpanBurst s).mlu = s.mlu ∧ (discardSpanBurst s).ce = s.ce ∧
    (discardSpanBurst s).nq = s.nq := by
  unfold discardSpanBurst; split <;> simp

@[simp] theorem stopFetch_keeps (s : State) :
    (stopFetch s).pending = s.pending ∧ (stopFetch s).resetLow = s.resetLow ∧
    (stopFetch s).now = s.now ∧ (stopFetch s).free = s.free ∧ (stopFetch s).ct = s.ct ∧
    (stopFetch s).rtu = s.rtu ∧ (stopFetch s).out = s.out ∧ (stopFetch s).comp = s.comp ∧
    (stopFetch s).mon = s.mon ∧ (stopFetch s).mlu = s.mlu ∧ (stopFetch s).ce = s.ce ∧
    (stopFetch s).nq = s.nq := by
  simp [stopFetch]

@[simp] theorem takeSpanOctets_keeps (octets : List Byte) (s : State) :
    (takeSpanOctets octets s).pending = s.pending ∧
    (takeSpanOctets octets s).resetLow = s.resetLow ∧ (takeSpanOctets octets s).now = s.now ∧
    (takeSpanOctets octets s).free = s.free ∧ (takeSpanOctets octets s).ct = s.ct ∧
    (takeSpanOctets octets s).rtu = s.rtu ∧ (takeSpanOctets octets s).out = s.out ∧
    (takeSpanOctets octets s).comp = s.comp ∧ (takeSpanOctets octets s).os = s.os ∧
    (takeSpanOctets octets s).mon = s.mon ∧ (takeSpanOctets octets s).mlu = s.mlu ∧
    (takeSpanOctets octets s).ce = s.ce ∧ (takeSpanOctets octets s).nq = s.nq := by
  simp only [takeSpanOctets]; split <;> (try split_ifs) <;> simp

@[simp] theorem completeSpanBurst_keeps (g : Grant) (s : State) :
    (completeSpanBurst g s).pending = s.pending ∧ (completeSpanBurst g s).resetLow = s.resetLow ∧
    (completeSpanBurst g s).now = s.now ∧ (completeSpanBurst g s).free = s.free ∧
    (completeSpanBurst g s).ct = s.ct ∧ (completeSpanBurst g s).rtu = s.rtu ∧
    (completeSpanBurst g s).out = s.out ∧ (completeSpanBurst g s).comp = s.comp ∧
    (completeSpanBurst g s).mon = s.mon ∧ (completeSpanBurst g s).mlu = s.mlu ∧
    (completeSpanBurst g s).ce = s.ce ∧ (completeSpanBurst g s).nq = s.nq := by
  simp only [completeSpanBurst]; split_ifs <;> simp

@[simp] theorem swapBuffers_keeps (s : State) :
    (swapBuffers s).pending = s.pending ∧ (swapBuffers s).resetLow = s.resetLow ∧
    (swapBuffers s).now = s.now ∧ (swapBuffers s).free = s.free ∧ (swapBuffers s).ct = s.ct ∧
    (swapBuffers s).rtu = s.rtu ∧ (swapBuffers s).out = s.out ∧ (swapBuffers s).comp = s.comp ∧
    (swapBuffers s).os = s.os ∧ (swapBuffers s).mon = s.mon ∧ (swapBuffers s).mlu = s.mlu ∧
    (swapBuffers s).ce = s.ce ∧ (swapBuffers s).nq = s.nq := by
  simp [swapBuffers]

@[simp] theorem countUnderruns_keeps (s : State) :
    (countUnderruns s).pending = s.pending ∧ (countUnderruns s).resetLow = s.resetLow ∧
    (countUnderruns s).now = s.now ∧ (countUnderruns s).free = s.free ∧
    (countUnderruns s).ct = s.ct ∧ (countUnderruns s).rtu = s.rtu ∧
    (countUnderruns s).out = s.out ∧ (countUnderruns s).comp = s.comp ∧
    (countUnderruns s).os = s.os ∧ (countUnderruns s).mon = s.mon ∧
    (countUnderruns s).mlu = s.mlu ∧ (countUnderruns s).ce = s.ce ∧ (countUnderruns s).nq = s.nq := by
  simp [countUnderruns]

@[simp] theorem spanLineStart_keeps (t : Nat) (s : State) :
    ((spanLineStart t s).1).pending = s.pending ∧ ((spanLineStart t s).1).resetLow = s.resetLow ∧
    ((spanLineStart t s).1).now = s.now ∧ ((spanLineStart t s).1).free = s.free ∧
    ((spanLineStart t s).1).ct = s.ct ∧ ((spanLineStart t s).1).rtu = s.rtu ∧
    ((spanLineStart t s).1).out = s.out ∧ ((spanLineStart t s).1).comp = s.comp ∧
    ((spanLineStart t s).1).mon = s.mon ∧ ((spanLineStart t s).1).mlu = s.mlu ∧
    ((spanLineStart t s).1).ce = s.ce ∧ ((spanLineStart t s).1).nq = s.nq := by
  simp only [spanLineStart]; split_ifs <;> simp

@[simp] theorem spanFrameStart_keeps (s : State) :
    (spanFrameStart s).pending = s.pending ∧ (spanFrameStart s).resetLow = s.resetLow ∧
    (spanFrameStart s).now = s.now ∧ (spanFrameStart s).free = s.free ∧
    (spanFrameStart s).ct = s.ct ∧ (spanFrameStart s).rtu = s.rtu ∧
    (spanFrameStart s).out = s.out ∧ (spanFrameStart s).comp = s.comp ∧
    (spanFrameStart s).mon = s.mon ∧ (spanFrameStart s).mlu = s.mlu ∧
    (spanFrameStart s).ce = s.ce ∧ (spanFrameStart s).nq = s.nq := by
  simp [spanFrameStart]

@[simp] theorem cutOperation_keeps (s : State) :
    ((cutOperation s).1).pending = s.pending ∧ ((cutOperation s).1).resetLow = s.resetLow ∧
    ((cutOperation s).1).now = s.now ∧ ((cutOperation s).1).free = s.free ∧
    ((cutOperation s).1).ct = s.ct ∧ ((cutOperation s).1).rtu = s.rtu ∧
    ((cutOperation s).1).out = s.out ∧ ((cutOperation s).1).comp = s.comp ∧
    ((cutOperation s).1).sf = s.sf ∧ ((cutOperation s).1).mon = s.mon ∧
    ((cutOperation s).1).mlu = s.mlu ∧ ((cutOperation s).1).ce = s.ce ∧
    ((cutOperation s).1).nq = s.nq := by
  unfold cutOperation; split <;> simp

/-! ### Compositor (chapter 4) -/

@[simp] theorem actCues_keeps (y : Nat) (s : State) :
    (actCues y s).pending = s.pending ∧ (actCues y s).resetLow = s.resetLow ∧
    (actCues y s).now = s.now ∧ (actCues y s).free = s.free ∧ (actCues y s).ct = s.ct ∧
    (actCues y s).rtu = s.rtu ∧ (actCues y s).out = s.out ∧ (actCues y s).sf = s.sf ∧
    (actCues y s).os = s.os ∧ (actCues y s).mon = s.mon ∧ (actCues y s).mlu = s.mlu ∧
    (actCues y s).ce = s.ce ∧ (actCues y s).nq = s.nq := by
  simp [actCues]

@[simp] theorem clearCueMask_keeps (s : State) :
    (clearCueMask s).pending = s.pending ∧ (clearCueMask s).resetLow = s.resetLow ∧
    (clearCueMask s).now = s.now ∧ (clearCueMask s).free = s.free ∧ (clearCueMask s).ct = s.ct ∧
    (clearCueMask s).rtu = s.rtu ∧ (clearCueMask s).out = s.out ∧ (clearCueMask s).sf = s.sf ∧
    (clearCueMask s).os = s.os ∧ (clearCueMask s).mon = s.mon ∧ (clearCueMask s).mlu = s.mlu ∧
    (clearCueMask s).ce = s.ce ∧ (clearCueMask s).nq = s.nq := by
  simp [clearCueMask]

@[simp] theorem takeSlate_keeps (s : State) :
    (takeSlate s).pending = s.pending ∧ (takeSlate s).resetLow = s.resetLow ∧
    (takeSlate s).now = s.now ∧ (takeSlate s).free = s.free ∧ (takeSlate s).ct = s.ct ∧
    (takeSlate s).rtu = s.rtu ∧ (takeSlate s).out = s.out ∧ (takeSlate s).sf = s.sf ∧
    (takeSlate s).os = s.os ∧ (takeSlate s).mon = s.mon ∧ (takeSlate s).mlu = s.mlu ∧
    (takeSlate s).ce = s.ce ∧ (takeSlate s).nq = s.nq := by
  simp [takeSlate]

/-! ### Engine (chapter 9) -/

@[simp] theorem queueResponse_keeps (r : Response) (s : State) :
    (queueResponse r s).pending = s.pending ∧ (queueResponse r s).resetLow = s.resetLow ∧
    (queueResponse r s).now = s.now ∧ (queueResponse r s).free = s.free ∧
    (queueResponse r s).ct = s.ct ∧ (queueResponse r s).rtu = s.rtu ∧
    (queueResponse r s).out = s.out ∧ (queueResponse r s).comp = s.comp ∧
    (queueResponse r s).sf = s.sf ∧ (queueResponse r s).os = s.os ∧
    (queueResponse r s).mon = s.mon ∧ (queueResponse r s).mlu = s.mlu ∧
    (queueResponse r s).nq = s.nq := by
  simp [queueResponse]

@[simp] theorem cacheResponse_keeps (e : CacheEntry) (s : State) :
    (cacheResponse e s).pending = s.pending ∧ (cacheResponse e s).resetLow = s.resetLow ∧
    (cacheResponse e s).now = s.now ∧ (cacheResponse e s).free = s.free ∧
    (cacheResponse e s).ct = s.ct ∧ (cacheResponse e s).rtu = s.rtu ∧
    (cacheResponse e s).out = s.out ∧ (cacheResponse e s).comp = s.comp ∧
    (cacheResponse e s).sf = s.sf ∧ (cacheResponse e s).os = s.os ∧
    (cacheResponse e s).mon = s.mon ∧ (cacheResponse e s).mlu = s.mlu ∧
    (cacheResponse e s).nq = s.nq := by
  simp [cacheResponse]

@[simp] theorem answer_keeps (q : Queued) (st : Status) (d : List Byte) (s : State) :
    (answer q st d s).pending = s.pending ∧ (answer q st d s).resetLow = s.resetLow ∧
    (answer q st d s).now = s.now ∧ (answer q st d s).free = s.free ∧
    (answer q st d s).ct = s.ct ∧ (answer q st d s).rtu = s.rtu ∧ (answer q st d s).out = s.out ∧
    (answer q st d s).comp = s.comp ∧ (answer q st d s).sf = s.sf ∧ (answer q st d s).os = s.os ∧
    (answer q st d s).mon = s.mon ∧ (answer q st d s).mlu = s.mlu ∧ (answer q st d s).nq = s.nq := by
  simp [answer]

@[simp] theorem answers_keeps (l : List Queued) (st : Status) (d : Queued → List Byte) (s : State) :
    (l.foldl (fun t q => answer q st (d q) t) s).pending = s.pending ∧
    (l.foldl (fun t q => answer q st (d q) t) s).resetLow = s.resetLow ∧
    (l.foldl (fun t q => answer q st (d q) t) s).now = s.now ∧
    (l.foldl (fun t q => answer q st (d q) t) s).free = s.free ∧
    (l.foldl (fun t q => answer q st (d q) t) s).ct = s.ct ∧
    (l.foldl (fun t q => answer q st (d q) t) s).rtu = s.rtu ∧
    (l.foldl (fun t q => answer q st (d q) t) s).out = s.out ∧
    (l.foldl (fun t q => answer q st (d q) t) s).comp = s.comp ∧
    (l.foldl (fun t q => answer q st (d q) t) s).sf = s.sf ∧
    (l.foldl (fun t q => answer q st (d q) t) s).os = s.os ∧
    (l.foldl (fun t q => answer q st (d q) t) s).mon = s.mon ∧
    (l.foldl (fun t q => answer q st (d q) t) s).mlu = s.mlu ∧
    (l.foldl (fun t q => answer q st (d q) t) s).nq = s.nq := by
  induction l generalizing s with
  | nil => simp
  | cons q l ih => have := ih (answer q st (d q) s); simp_all

@[simp] theorem endExecution_keeps (s : State) :
    (endExecution s).pending = s.pending ∧ (endExecution s).resetLow = s.resetLow ∧
    (endExecution s).now = s.now ∧ (endExecution s).free = s.free ∧ (endExecution s).ct = s.ct ∧
    (endExecution s).rtu = s.rtu ∧ (endExecution s).out = s.out ∧ (endExecution s).comp = s.comp ∧
    (endExecution s).sf = s.sf ∧ (endExecution s).os = s.os ∧ (endExecution s).mon = s.mon ∧
    (endExecution s).mlu = s.mlu ∧ (endExecution s).nq = s.nq := by
  simp [endExecution]

@[simp] theorem completeCommand_keeps (st : Status) (d : List Byte) (s : State) :
    (completeCommand st d s).pending = s.pending ∧
    (completeCommand st d s).resetLow = s.resetLow ∧ (completeCommand st d s).now = s.now ∧
    (completeCommand st d s).free = s.free ∧ (completeCommand st d s).ct = s.ct ∧
    (completeCommand st d s).rtu = s.rtu ∧ (completeCommand st d s).out = s.out ∧
    (completeCommand st d s).comp = s.comp ∧ (completeCommand st d s).sf = s.sf ∧
    (completeCommand st d s).os = s.os ∧ (completeCommand st d s).mon = s.mon ∧
    (completeCommand st d s).mlu = s.mlu ∧ (completeCommand st d s).nq = s.nq := by
  simp only [completeCommand]; split <;> (try split_ifs) <;> simp

@[simp] theorem runSequenced_keeps (code : Byte) (p : List Byte) (s : State) :
    ((runSequenced code p s).1).pending = s.pending ∧
    ((runSequenced code p s).1).resetLow = s.resetLow ∧ ((runSequenced code p s).1).now = s.now ∧
    ((runSequenced code p s).1).free = s.free ∧ ((runSequenced code p s).1).out = s.out ∧
    ((runSequenced code p s).1).comp = s.comp := by
  simp only [runSequenced]
  split
  · simp
  · rename_i c _
    split_ifs
    · cases c <;> simp only [Command.run, runReadInfo, runReadStatus, runClearCounters, runSetNotifyMask,
        runSetTiming, runEditOpen, runEditClose, runCommit, runSetRegion, runSetPalette, runSetCue,
        runReadRegion, runReadPalette, runReadCue, runStore, runSetFence, runReadFence,
        runReadMeasure, runSetReport, whileOpen, checked] <;> (repeat' split) <;> simp
    · simp

@[simp] theorem runBroadcastCommit_keeps (p : List Byte) (s : State) :
    ((runBroadcastCommit p s).1).pending = s.pending ∧
    ((runBroadcastCommit p s).1).resetLow = s.resetLow ∧
    ((runBroadcastCommit p s).1).now = s.now ∧ ((runBroadcastCommit p s).1).free = s.free ∧
    ((runBroadcastCommit p s).1).rtu = s.rtu ∧ ((runBroadcastCommit p s).1).out = s.out ∧
    ((runBroadcastCommit p s).1).comp = s.comp ∧ ((runBroadcastCommit p s).1).sf = s.sf ∧
    ((runBroadcastCommit p s).1).os = s.os ∧ ((runBroadcastCommit p s).1).mon = s.mon ∧
    ((runBroadcastCommit p s).1).mlu = s.mlu ∧ ((runBroadcastCommit p s).1).ce = s.ce := by
  unfold runBroadcastCommit; split_ifs <;> simp

@[simp] theorem beginQueued_keeps (q : Queued) (s : State) :
    (beginQueued q s).pending = s.pending ∧ (beginQueued q s).resetLow = s.resetLow ∧
    (beginQueued q s).now = s.now ∧ (beginQueued q s).free = s.free ∧
    (beginQueued q s).out = s.out ∧ (beginQueued q s).comp = s.comp := by
  have h := runSequenced_keeps q.code q.payload s
  have h' := runBroadcastCommit_keeps q.payload s
  unfold beginQueued
  split_ifs <;> split <;> simp_all

@[simp] theorem beginNext_keeps (s : State) :
    (beginNext s).pending = s.pending ∧ (beginNext s).resetLow = s.resetLow ∧
    (beginNext s).now = s.now ∧ (beginNext s).free = s.free ∧ (beginNext s).out = s.out ∧
    (beginNext s).comp = s.comp := by
  unfold beginNext; split_ifs <;> (try split) <;> simp

theorem settleActs_each (s : State) :
    ∀ act ∈ settleActs s, ∀ t,
    (act t).pending = t.pending ∧ (act t).resetLow = t.resetLow ∧ (act t).now = t.now ∧
    (act t).free = t.free ∧ (act t).out = t.out ∧ (act t).comp = t.comp := by
  simp [settleActs]

@[simp] theorem settleActs_run (s : State) (t : State) :
    (runActs (settleActs s) t).pending = t.pending ∧
    (runActs (settleActs s) t).resetLow = t.resetLow ∧ (runActs (settleActs s) t).now = t.now ∧
    (runActs (settleActs s) t).free = t.free ∧ (runActs (settleActs s) t).out = t.out ∧
    (runActs (settleActs s) t).comp = t.comp := by
  refine ⟨?_, ?_, ?_, ?_, ?_, ?_⟩ <;>
    exact runActs_keeps (fun act h x => by simp [settleActs_each s act h x]) t

@[simp] theorem settleEngine_keeps (s : State) :
    (settleEngine s).pending = s.pending ∧ (settleEngine s).resetLow = s.resetLow ∧
    (settleEngine s).now = s.now ∧ (settleEngine s).free = s.free ∧ (settleEngine s).out = s.out ∧
    (settleEngine s).comp = s.comp := by
  simp [settleEngine]

@[simp] theorem takeCommitApplied_keeps (s : State) :
    (takeCommitApplied s).pending = s.pending ∧ (takeCommitApplied s).resetLow = s.resetLow ∧
    (takeCommitApplied s).now = s.now ∧ (takeCommitApplied s).free = s.free ∧
    (takeCommitApplied s).out = s.out ∧ (takeCommitApplied s).comp = s.comp := by
  unfold takeCommitApplied; split <;> simp

@[simp] theorem setReady_keeps (s : State) :
    (setReady s).pending = s.pending ∧ (setReady s).resetLow = s.resetLow ∧
    (setReady s).now = s.now ∧ (setReady s).free = s.free ∧ (setReady s).ct = s.ct ∧
    (setReady s).rtu = s.rtu ∧ (setReady s).out = s.out ∧ (setReady s).mlu = s.mlu ∧
    (setReady s).ce = s.ce ∧ (setReady s).nq = s.nq := by
  simp [setReady]

@[simp] theorem commitNow_keeps (s : State) :
    (commitNow s).pending = s.pending ∧ (commitNow s).resetLow = s.resetLow ∧
    (commitNow s).now = s.now ∧ (commitNow s).free = s.free ∧ (commitNow s).out = s.out := by
  simp [commitNow]

theorem activationActs_each (s : State) :
    ∀ act ∈ activationActs s, ∀ t,
    (act t).pending = t.pending ∧ (act t).resetLow = t.resetLow ∧ (act t).now = t.now ∧
    (act t).free = t.free ∧ (act t).out = t.out := by
  have h := settleActs_each s
  unfold activationActs
  split_ifs
  · simp
  · simp only [List.mem_cons, forall_eq_or_imp]
    exact ⟨by simp, fun act ha t => by simp [h act ha t]⟩
  · simp

@[simp] theorem activationActs_run (s : State) (t : State) :
    (runActs (activationActs s) t).pending = t.pending ∧
    (runActs (activationActs s) t).resetLow = t.resetLow ∧
    (runActs (activationActs s) t).now = t.now ∧ (runActs (activationActs s) t).free = t.free ∧
    (runActs (activationActs s) t).out = t.out := by
  refine ⟨?_, ?_, ?_, ?_, ?_⟩ <;>
    exact runActs_keeps (fun act h x => by simp [activationActs_each s act h x]) t

@[simp] theorem activationEvent_keeps (s : State) :
    (activationEvent s).pending = s.pending ∧ (activationEvent s).resetLow = s.resetLow ∧
    (activationEvent s).now = s.now ∧ (activationEvent s).free = s.free ∧
    (activationEvent s).out = s.out := by
  simp [activationEvent]

/-! ### Store operations (chapter 6) -/

@[simp] theorem finishOperation_keeps (op : StoreOp) (s : State) :
    (finishOperation op s).pending = s.pending ∧ (finishOperation op s).resetLow = s.resetLow ∧
    (finishOperation op s).now = s.now ∧ (finishOperation op s).free = s.free ∧
    (finishOperation op s).out = s.out ∧ (finishOperation op s).comp = s.comp := by
  simp [finishOperation]

@[simp] theorem advanceOperation_keeps (op : StoreOp) (s : State) :
    (advanceOperation op s).pending = s.pending ∧ (advanceOperation op s).resetLow = s.resetLow ∧
    (advanceOperation op s).now = s.now ∧ (advanceOperation op s).free = s.free ∧
    (advanceOperation op s).out = s.out ∧ (advanceOperation op s).comp = s.comp := by
  simp only [advanceOperation]; split <;> simp

@[simp] theorem completeChecks_keeps (op : StoreOp) (s : State) :
    (completeChecks op s).pending = s.pending ∧ (completeChecks op s).resetLow = s.resetLow ∧
    (completeChecks op s).now = s.now ∧ (completeChecks op s).free = s.free ∧
    (completeChecks op s).out = s.out ∧ (completeChecks op s).comp = s.comp := by
  unfold completeChecks; split <;> simp

@[simp] theorem completeCancel_keeps (c : CancelWait) (d : List Byte) (s : State) :
    (completeCancel c d s).pending = s.pending ∧ (completeCancel c d s).resetLow = s.resetLow ∧
    (completeCancel c d s).now = s.now ∧ (completeCancel c d s).free = s.free ∧
    (completeCancel c d s).out = s.out ∧ (completeCancel c d s).comp = s.comp := by
  simp [completeCancel]

@[simp] theorem endOperation_keeps (op : StoreOp) (s : State) :
    (endOperation op s).pending = s.pending ∧ (endOperation op s).resetLow = s.resetLow ∧
    (endOperation op s).now = s.now ∧ (endOperation op s).free = s.free ∧
    (endOperation op s).out = s.out ∧ (endOperation op s).comp = s.comp := by
  simp only [endOperation]; split <;> simp

@[simp] theorem completeWrite_keeps (op : StoreOp) (r : BurstRequest) (s : State) :
    (completeWrite op r s).pending = s.pending ∧ (completeWrite op r s).resetLow = s.resetLow ∧
    (completeWrite op r s).now = s.now ∧ (completeWrite op r s).free = s.free ∧
    (completeWrite op r s).out = s.out ∧ (completeWrite op r s).comp = s.comp := by
  simp only [completeWrite]; split_ifs <;> simp

@[simp] theorem completeRead_keeps (op : StoreOp) (r : BurstRequest) (s : State) :
    (completeRead op r s).pending = s.pending ∧ (completeRead op r s).resetLow = s.resetLow ∧
    (completeRead op r s).now = s.now ∧ (completeRead op r s).free = s.free ∧
    (completeRead op r s).out = s.out ∧ (completeRead op r s).comp = s.comp := by
  simp only [completeRead]; split_ifs <;> simp

@[simp] theorem completeEngineBurst_keeps (g : Grant) (s : State) :
    (completeEngineBurst g s).pending = s.pending ∧
    (completeEngineBurst g s).resetLow = s.resetLow ∧ (completeEngineBurst g s).now = s.now ∧
    (completeEngineBurst g s).free = s.free ∧ (completeEngineBurst g s).out = s.out ∧
    (completeEngineBurst g s).comp = s.comp := by
  simp only [completeEngineBurst]; split <;> (try split_ifs) <;> simp

/-! ### Intake (chapter 9) -/

@[simp] theorem takeNew_keeps (q : Queued) (s : State) :
    (takeNew q s).pending = s.pending ∧ (takeNew q s).resetLow = s.resetLow ∧
    (takeNew q s).now = s.now ∧ (takeNew q s).free = s.free ∧ (takeNew q s).ct = s.ct ∧
    (takeNew q s).rtu = s.rtu ∧ (takeNew q s).out = s.out ∧ (takeNew q s).comp = s.comp ∧
    (takeNew q s).sf = s.sf ∧ (takeNew q s).os = s.os ∧ (takeNew q s).mon = s.mon ∧
    (takeNew q s).mlu = s.mlu ∧ (takeNew q s).nq = s.nq := by
  unfold takeNew; split_ifs <;> simp

@[simp] theorem takeStale_keeps (q : Queued) (s : State) :
    (takeStale q s).pending = s.pending ∧ (takeStale q s).resetLow = s.resetLow ∧
    (takeStale q s).now = s.now ∧ (takeStale q s).free = s.free ∧ (takeStale q s).ct = s.ct ∧
    (takeStale q s).rtu = s.rtu ∧ (takeStale q s).out = s.out ∧ (takeStale q s).comp = s.comp ∧
    (takeStale q s).sf = s.sf ∧ (takeStale q s).os = s.os ∧ (takeStale q s).mon = s.mon ∧
    (takeStale q s).mlu = s.mlu ∧ (takeStale q s).nq = s.nq := by
  unfold takeStale; split_ifs <;> simp

@[simp] theorem takeRecent_keeps (q : Queued) (s : State) :
    (takeRecent q s).pending = s.pending ∧ (takeRecent q s).resetLow = s.resetLow ∧
    (takeRecent q s).now = s.now ∧ (takeRecent q s).free = s.free ∧ (takeRecent q s).ct = s.ct ∧
    (takeRecent q s).rtu = s.rtu ∧ (takeRecent q s).out = s.out ∧ (takeRecent q s).comp = s.comp ∧
    (takeRecent q s).sf = s.sf ∧ (takeRecent q s).os = s.os ∧ (takeRecent q s).mon = s.mon ∧
    (takeRecent q s).mlu = s.mlu ∧ (takeRecent q s).nq = s.nq := by
  unfold takeRecent; split <;> split_ifs <;> simp

@[simp] theorem intakeSequenced_keeps (q : Queued) (s : State) :
    (intakeSequenced q s).pending = s.pending ∧ (intakeSequenced q s).resetLow = s.resetLow ∧
    (intakeSequenced q s).now = s.now ∧ (intakeSequenced q s).free = s.free ∧
    (intakeSequenced q s).ct = s.ct ∧ (intakeSequenced q s).rtu = s.rtu ∧
    (intakeSequenced q s).out = s.out ∧ (intakeSequenced q s).comp = s.comp ∧
    (intakeSequenced q s).sf = s.sf ∧ (intakeSequenced q s).os = s.os ∧
    (intakeSequenced q s).mon = s.mon ∧ (intakeSequenced q s).mlu = s.mlu ∧
    (intakeSequenced q s).nq = s.nq := by
  simp only [intakeSequenced]; split <;> (try split_ifs) <;> simp

@[simp] theorem intakeBroadcastCommit_keeps (p : List Byte) (s : State) :
    (intakeBroadcastCommit p s).pending = s.pending ∧
    (intakeBroadcastCommit p s).resetLow = s.resetLow ∧ (intakeBroadcastCommit p s).now = s.now ∧
    (intakeBroadcastCommit p s).free = s.free ∧ (intakeBroadcastCommit p s).ct = s.ct ∧
    (intakeBroadcastCommit p s).rtu = s.rtu ∧ (intakeBroadcastCommit p s).out = s.out ∧
    (intakeBroadcastCommit p s).comp = s.comp ∧ (intakeBroadcastCommit p s).sf = s.sf ∧
    (intakeBroadcastCommit p s).os = s.os ∧ (intakeBroadcastCommit p s).mon = s.mon ∧
    (intakeBroadcastCommit p s).mlu = s.mlu ∧ (intakeBroadcastCommit p s).nq = s.nq := by
  unfold intakeBroadcastCommit; split_ifs <;> simp

@[simp] theorem performCancel_keeps (seq code : Byte) (s : State) :
    (performCancel seq code s).pending = s.pending ∧
    (performCancel seq code s).resetLow = s.resetLow ∧ (performCancel seq code s).now = s.now ∧
    (performCancel seq code s).free = s.free ∧ (performCancel seq code s).out = s.out ∧
    (performCancel seq code s).comp = s.comp := by
  simp only [performCancel]
  split <;> (try split_ifs) <;> simp

@[simp] theorem resetCe_keeps (s : State) :
    (resetCe s).pending = s.pending ∧ (resetCe s).resetLow = s.resetLow ∧
    (resetCe s).now = s.now ∧ (resetCe s).free = s.free ∧ (resetCe s).ct = s.ct ∧
    (resetCe s).rtu = s.rtu ∧ (resetCe s).out = s.out ∧ (resetCe s).comp = s.comp ∧
    (resetCe s).sf = s.sf ∧ (resetCe s).os = s.os ∧ (resetCe s).mon = s.mon ∧
    (resetCe s).mlu = s.mlu ∧ (resetCe s).nq = s.nq := by
  simp [resetCe]

@[simp] theorem resetBlocks_keeps (s : State) :
    (resetBlocks s).pending = s.pending ∧ (resetBlocks s).resetLow = s.resetLow ∧
    (resetBlocks s).now = s.now ∧ (resetBlocks s).free = s.free ∧ (resetBlocks s).ct = s.ct ∧
    (resetBlocks s).out = s.out ∧ (resetBlocks s).comp = s.comp ∧ (resetBlocks s).ce = s.ce := by
  simp [resetBlocks]

@[simp] theorem performReset_keeps (s : State) :
    (performReset s).pending = s.pending ∧ (performReset s).resetLow = s.resetLow ∧
    (performReset s).now = s.now ∧ (performReset s).free = s.free ∧ (performReset s).out = s.out ∧
    (performReset s).comp = s.comp := by
  simp [performReset]

@[simp] theorem fillSlot_keeps (seq code : Byte) (st : Status) (s : State) :
    (fillSlot seq code st s).pending = s.pending ∧
    (fillSlot seq code st s).resetLow = s.resetLow ∧ (fillSlot seq code st s).now = s.now ∧
    (fillSlot seq code st s).free = s.free ∧ (fillSlot seq code st s).ct = s.ct ∧
    (fillSlot seq code st s).rtu = s.rtu ∧ (fillSlot seq code st s).out = s.out ∧
    (fillSlot seq code st s).comp = s.comp ∧ (fillSlot seq code st s).sf = s.sf ∧
    (fillSlot seq code st s).os = s.os ∧ (fillSlot seq code st s).mon = s.mon ∧
    (fillSlot seq code st s).mlu = s.mlu ∧ (fillSlot seq code st s).nq = s.nq := by
  simp [fillSlot]

@[simp] theorem intakeCancel_keeps (seq : Byte) (p : List Byte) (s : State) :
    (intakeCancel seq p s).pending = s.pending ∧ (intakeCancel seq p s).resetLow = s.resetLow ∧
    (intakeCancel seq p s).now = s.now ∧ (intakeCancel seq p s).free = s.free ∧
    (intakeCancel seq p s).out = s.out ∧ (intakeCancel seq p s).comp = s.comp := by
  simp only [intakeCancel, intakeImmediate]; split_ifs <;> simp

@[simp] theorem intakeReset_keeps (seq : Byte) (p : List Byte) (s : State) :
    (intakeReset seq p s).pending = s.pending ∧ (intakeReset seq p s).resetLow = s.resetLow ∧
    (intakeReset seq p s).now = s.now ∧ (intakeReset seq p s).free = s.free ∧
    (intakeReset seq p s).out = s.out ∧ (intakeReset seq p s).comp = s.comp := by
  simp only [intakeReset, intakeImmediate]; split_ifs <;> simp

@[simp] theorem intakeBroadcastReset_keeps (p : List Byte) (s : State) :
    (intakeBroadcastReset p s).pending = s.pending ∧
    (intakeBroadcastReset p s).resetLow = s.resetLow ∧ (intakeBroadcastReset p s).now = s.now ∧
    (intakeBroadcastReset p s).free = s.free ∧ (intakeBroadcastReset p s).out = s.out ∧
    (intakeBroadcastReset p s).comp = s.comp := by
  unfold intakeBroadcastReset; split_ifs <;> simp

@[simp] theorem intakeAddressed_keeps (seq code : Byte) (p : List Byte) (s : State) :
    (intakeAddressed seq code p s).pending = s.pending ∧
    (intakeAddressed seq code p s).resetLow = s.resetLow ∧
    (intakeAddressed seq code p s).now = s.now ∧ (intakeAddressed seq code p s).free = s.free ∧
    (intakeAddressed seq code p s).out = s.out ∧ (intakeAddressed seq code p s).comp = s.comp := by
  unfold intakeAddressed; split_ifs <;> simp

@[simp] theorem intakeBroadcast_keeps (code : Byte) (p : List Byte) (s : State) :
    (intakeBroadcast code p s).pending = s.pending ∧
    (intakeBroadcast code p s).resetLow = s.resetLow ∧ (intakeBroadcast code p s).now = s.now ∧
    (intakeBroadcast code p s).free = s.free ∧ (intakeBroadcast code p s).out = s.out ∧
    (intakeBroadcast code p s).comp = s.comp := by
  unfold intakeBroadcast; split_ifs <;> simp

@[simp] theorem takeEnumeration_keeps (s : State) :
    (takeEnumeration s).pending = s.pending ∧ (takeEnumeration s).resetLow = s.resetLow ∧
    (takeEnumeration s).now = s.now ∧ (takeEnumeration s).free = s.free ∧
    (takeEnumeration s).ct = s.ct ∧ (takeEnumeration s).rtu = s.rtu ∧
    (takeEnumeration s).out = s.out ∧ (takeEnumeration s).comp = s.comp ∧
    (takeEnumeration s).sf = s.sf ∧ (takeEnumeration s).os = s.os ∧
    (takeEnumeration s).mon = s.mon ∧ (takeEnumeration s).mlu = s.mlu ∧
    (takeEnumeration s).nq = s.nq := by
  simp [takeEnumeration]

/-! ### Management lines (chapter 8) -/

@[simp] theorem countNotForwarded_keeps (s : State) :
    (countNotForwarded s).pending = s.pending ∧ (countNotForwarded s).resetLow = s.resetLow ∧
    (countNotForwarded s).now = s.now ∧ (countNotForwarded s).free = s.free ∧
    (countNotForwarded s).ct = s.ct ∧ (countNotForwarded s).rtu = s.rtu ∧
    (countNotForwarded s).out = s.out ∧ (countNotForwarded s).comp = s.comp ∧
    (countNotForwarded s).sf = s.sf ∧ (countNotForwarded s).os = s.os ∧
    (countNotForwarded s).mon = s.mon ∧ (countNotForwarded s).ce = s.ce ∧
    (countNotForwarded s).nq = s.nq := by
  simp [countNotForwarded]

@[simp] theorem forwardPacket_keeps (p : Packet) (s : State) :
    (forwardPacket p s).pending = s.pending ∧ (forwardPacket p s).resetLow = s.resetLow ∧
    (forwardPacket p s).now = s.now ∧ (forwardPacket p s).free = s.free ∧
    (forwardPacket p s).ct = s.ct ∧ (forwardPacket p s).out = s.out ∧
    (forwardPacket p s).comp = s.comp ∧ (forwardPacket p s).sf = s.sf ∧
    (forwardPacket p s).os = s.os ∧ (forwardPacket p s).mon = s.mon ∧
    (forwardPacket p s).ce = s.ce ∧ (forwardPacket p s).nq = s.nq := by
  unfold forwardPacket; split <;> simp

@[simp] theorem takeEnum_keeps (p : Packet) (s : State) :
    (takeEnum p s).pending = s.pending ∧ (takeEnum p s).resetLow = s.resetLow ∧
    (takeEnum p s).now = s.now ∧ (takeEnum p s).free = s.free ∧ (takeEnum p s).ct = s.ct ∧
    (takeEnum p s).out = s.out ∧ (takeEnum p s).comp = s.comp ∧ (takeEnum p s).sf = s.sf ∧
    (takeEnum p s).os = s.os ∧ (takeEnum p s).mon = s.mon ∧ (takeEnum p s).nq = s.nq := by
  simp only [takeEnum]; split <;> (try split_ifs) <;> simp

@[simp] theorem takeBroadcast_keeps (p : Packet) (s : State) :
    (takeBroadcast p s).pending = s.pending ∧ (takeBroadcast p s).resetLow = s.resetLow ∧
    (takeBroadcast p s).now = s.now ∧ (takeBroadcast p s).free = s.free ∧
    (takeBroadcast p s).out = s.out ∧ (takeBroadcast p s).comp = s.comp := by
  simp only [takeBroadcast]; split_ifs <;> simp

@[simp] theorem takePacket_keeps (p : Packet) (s : State) :
    (takePacket p s).pending = s.pending ∧ (takePacket p s).resetLow = s.resetLow ∧
    (takePacket p s).now = s.now ∧ (takePacket p s).out = s.out ∧ (takePacket p s).comp = s.comp := by
  simp only [takePacket, eitherOrder]; split_ifs <;> simp

@[simp] theorem setParse_keeps (p : Option Parse) (s : State) :
    (setParse p s).pending = s.pending ∧ (setParse p s).resetLow = s.resetLow ∧
    (setParse p s).now = s.now ∧ (setParse p s).free = s.free ∧ (setParse p s).ct = s.ct ∧
    (setParse p s).rtu = s.rtu ∧ (setParse p s).out = s.out ∧ (setParse p s).comp = s.comp ∧
    (setParse p s).sf = s.sf ∧ (setParse p s).os = s.os ∧ (setParse p s).mon = s.mon ∧
    (setParse p s).ce = s.ce ∧ (setParse p s).nq = s.nq := by
  simp [setParse]

@[simp] theorem countFraming_keeps (s : State) :
    (countFraming s).pending = s.pending ∧ (countFraming s).resetLow = s.resetLow ∧
    (countFraming s).now = s.now ∧ (countFraming s).free = s.free ∧ (countFraming s).ct = s.ct ∧
    (countFraming s).rtu = s.rtu ∧ (countFraming s).out = s.out ∧ (countFraming s).comp = s.comp ∧
    (countFraming s).sf = s.sf ∧ (countFraming s).os = s.os ∧ (countFraming s).mon = s.mon ∧
    (countFraming s).ce = s.ce ∧ (countFraming s).nq = s.nq := by
  simp [countFraming]

@[simp] theorem framingError_keeps (p : Parse) (s : State) :
    (framingError p s).pending = s.pending ∧ (framingError p s).resetLow = s.resetLow ∧
    (framingError p s).now = s.now ∧ (framingError p s).free = s.free ∧
    (framingError p s).ct = s.ct ∧ (framingError p s).rtu = s.rtu ∧
    (framingError p s).out = s.out ∧ (framingError p s).comp = s.comp ∧
    (framingError p s).sf = s.sf ∧ (framingError p s).os = s.os ∧ (framingError p s).mon = s.mon ∧
    (framingError p s).ce = s.ce ∧ (framingError p s).nq = s.nq := by
  simp [framingError]

@[simp] theorem feedOctet_keeps (o : Byte) (s : State) :
    (feedOctet s o).pending = s.pending ∧ (feedOctet s o).resetLow = s.resetLow ∧
    (feedOctet s o).now = s.now ∧ (feedOctet s o).out = s.out ∧ (feedOctet s o).comp = s.comp := by
  simp only [feedOctet]; split <;> (try split_ifs) <;> simp

@[simp] theorem feedOctets_keeps (l : List Byte) (s : State) :
    (l.foldl feedOctet s).pending = s.pending ∧ (l.foldl feedOctet s).resetLow = s.resetLow ∧
    (l.foldl feedOctet s).now = s.now ∧ (l.foldl feedOctet s).out = s.out ∧
    (l.foldl feedOctet s).comp = s.comp := by
  induction l generalizing s with
  | nil => simp
  | cons o l ih => have := ih (feedOctet s o); simp_all

@[simp] theorem beginParse_keeps (k : LineKind) (s : State) :
    (beginParse k s).pending = s.pending ∧ (beginParse k s).resetLow = s.resetLow ∧
    (beginParse k s).now = s.now ∧ (beginParse k s).free = s.free ∧ (beginParse k s).ct = s.ct ∧
    (beginParse k s).rtu = s.rtu ∧ (beginParse k s).out = s.out ∧ (beginParse k s).comp = s.comp ∧
    (beginParse k s).sf = s.sf ∧ (beginParse k s).os = s.os ∧ (beginParse k s).mon = s.mon ∧
    (beginParse k s).ce = s.ce ∧ (beginParse k s).nq = s.nq := by
  unfold beginParse; split_ifs <;> simp

theorem endParseActs_each (s : State) :
    ∀ act ∈ endParseActs s, ∀ t,
    (act t).pending = t.pending ∧ (act t).resetLow = t.resetLow ∧ (act t).now = t.now ∧
    (act t).free = t.free ∧ (act t).ct = t.ct ∧ (act t).rtu = t.rtu ∧ (act t).out = t.out ∧
    (act t).comp = t.comp ∧ (act t).sf = t.sf ∧ (act t).os = t.os ∧ (act t).mon = t.mon ∧
    (act t).ce = t.ce ∧ (act t).nq = t.nq := by
  unfold endParseActs; split <;> (try split_ifs) <;> simp

@[simp] theorem endParseActs_run (s : State) (t : State) :
    (runActs (endParseActs s) t).pending = t.pending ∧
    (runActs (endParseActs s) t).resetLow = t.resetLow ∧
    (runActs (endParseActs s) t).now = t.now ∧ (runActs (endParseActs s) t).free = t.free ∧
    (runActs (endParseActs s) t).ct = t.ct ∧ (runActs (endParseActs s) t).rtu = t.rtu ∧
    (runActs (endParseActs s) t).out = t.out ∧ (runActs (endParseActs s) t).comp = t.comp ∧
    (runActs (endParseActs s) t).sf = t.sf ∧ (runActs (endParseActs s) t).os = t.os ∧
    (runActs (endParseActs s) t).mon = t.mon ∧ (runActs (endParseActs s) t).ce = t.ce ∧
    (runActs (endParseActs s) t).nq = t.nq := by
  refine ⟨?_, ?_, ?_, ?_, ?_, ?_, ?_, ?_, ?_, ?_, ?_, ?_, ?_⟩ <;>
    exact runActs_keeps (fun act h x => by simp [endParseActs_each s act h x]) t

@[simp] theorem emitResponse_keeps (r : Response) (s : State) :
    (emitResponse r s).pending = s.pending ∧ (emitResponse r s).resetLow = s.resetLow ∧
    (emitResponse r s).now = s.now ∧ (emitResponse r s).free = s.free ∧
    (emitResponse r s).ct = s.ct ∧ (emitResponse r s).rtu = s.rtu ∧
    (emitResponse r s).out = s.out ∧ (emitResponse r s).comp = s.comp ∧
    (emitResponse r s).sf = s.sf ∧ (emitResponse r s).os = s.os ∧ (emitResponse r s).mon = s.mon ∧
    (emitResponse r s).mlu = s.mlu ∧ (emitResponse r s).nq = s.nq := by
  simp [emitResponse]

@[simp] theorem emitNotification_keeps (s : State) :
    (emitNotification s).pending = s.pending ∧ (emitNotification s).resetLow = s.resetLow ∧
    (emitNotification s).now = s.now ∧ (emitNotification s).free = s.free ∧
    (emitNotification s).ct = s.ct ∧ (emitNotification s).rtu = s.rtu ∧
    (emitNotification s).out = s.out ∧ (emitNotification s).comp = s.comp ∧
    (emitNotification s).sf = s.sf ∧ (emitNotification s).os = s.os ∧
    (emitNotification s).mon = s.mon ∧ (emitNotification s).ce = s.ce := by
  simp [emitNotification]

@[simp] theorem emitChosen_keeps (c : Chosen) (s : State) :
    (c.emit s).pending = s.pending ∧ (c.emit s).resetLow = s.resetLow ∧ (c.emit s).now = s.now ∧
    (c.emit s).free = s.free ∧ (c.emit s).ct = s.ct ∧ (c.emit s).rtu = s.rtu ∧
    (c.emit s).out = s.out ∧ (c.emit s).comp = s.comp ∧ (c.emit s).sf = s.sf ∧
    (c.emit s).os = s.os ∧ (c.emit s).mon = s.mon := by
  cases c <;> simp [Chosen.emit]

@[simp] theorem beginAssembly_keeps (a : Assembly) (s : State) :
    ((beginAssembly (s, a)).1).pending = s.pending ∧
    ((beginAssembly (s, a)).1).resetLow = s.resetLow ∧ ((beginAssembly (s, a)).1).now = s.now ∧
    ((beginAssembly (s, a)).1).free = s.free ∧ ((beginAssembly (s, a)).1).ct = s.ct ∧
    ((beginAssembly (s, a)).1).rtu = s.rtu ∧ ((beginAssembly (s, a)).1).out = s.out ∧
    ((beginAssembly (s, a)).1).comp = s.comp ∧ ((beginAssembly (s, a)).1).sf = s.sf ∧
    ((beginAssembly (s, a)).1).os = s.os ∧ ((beginAssembly (s, a)).1).mon = s.mon ∧
    ((beginAssembly (s, a)).1).ce = s.ce ∧ ((beginAssembly (s, a)).1).nq = s.nq := by
  simp [beginAssembly]

@[simp] theorem insertNext_keeps (a : Assembly) (s : State) :
    ((insertNext (s, a)).1).pending = s.pending ∧ ((insertNext (s, a)).1).resetLow = s.resetLow ∧
    ((insertNext (s, a)).1).now = s.now ∧ ((insertNext (s, a)).1).free = s.free ∧
    ((insertNext (s, a)).1).ct = s.ct ∧ ((insertNext (s, a)).1).rtu = s.rtu ∧
    ((insertNext (s, a)).1).out = s.out ∧ ((insertNext (s, a)).1).comp = s.comp ∧
    ((insertNext (s, a)).1).sf = s.sf ∧ ((insertNext (s, a)).1).os = s.os ∧
    ((insertNext (s, a)).1).mon = s.mon := by
  simp only [insertNext]; split <;> (try split_ifs) <;> simp

theorem assemblyActs_each (n : Nat) : ∀ act ∈ assemblyActs n, ∀ x : State × Assembly,
    (act x).1.pending = x.1.pending ∧ (act x).1.resetLow = x.1.resetLow ∧ (act x).1.now = x.1.now ∧
    (act x).1.free = x.1.free ∧ (act x).1.ct = x.1.ct ∧ (act x).1.rtu = x.1.rtu ∧
    (act x).1.out = x.1.out ∧ (act x).1.comp = x.1.comp ∧ (act x).1.sf = x.1.sf ∧
    (act x).1.os = x.1.os ∧ (act x).1.mon = x.1.mon := by
  simp only [assemblyActs, List.mem_cons, List.mem_replicate, forall_eq_or_imp]
  exact ⟨fun x => by simp [beginAssembly_keeps x.2 x.1], fun act ⟨_, h⟩ x => by
    simp [h, insertNext_keeps x.2 x.1]⟩

@[simp] theorem assembly_keeps (n : Nat) (a : Assembly) (s : State) :
    ((runActs (assemblyActs n) (s, a)).1).pending = s.pending ∧
    ((runActs (assemblyActs n) (s, a)).1).resetLow = s.resetLow ∧
    ((runActs (assemblyActs n) (s, a)).1).now = s.now ∧
    ((runActs (assemblyActs n) (s, a)).1).free = s.free ∧
    ((runActs (assemblyActs n) (s, a)).1).ct = s.ct ∧
    ((runActs (assemblyActs n) (s, a)).1).rtu = s.rtu ∧
    ((runActs (assemblyActs n) (s, a)).1).out = s.out ∧
    ((runActs (assemblyActs n) (s, a)).1).comp = s.comp ∧
    ((runActs (assemblyActs n) (s, a)).1).sf = s.sf ∧
    ((runActs (assemblyActs n) (s, a)).1).os = s.os ∧
    ((runActs (assemblyActs n) (s, a)).1).mon = s.mon := by
  refine ⟨?_, ?_, ?_, ?_, ?_, ?_, ?_, ?_, ?_, ?_, ?_⟩
  · exact runActs_keeps (f := fun x : State × Assembly => x.1.pending)
      (fun act h x => by simp [assemblyActs_each n act h x]) _
  · exact runActs_keeps (f := fun x : State × Assembly => x.1.resetLow)
      (fun act h x => by simp [assemblyActs_each n act h x]) _
  · exact runActs_keeps (f := fun x : State × Assembly => x.1.now)
      (fun act h x => by simp [assemblyActs_each n act h x]) _
  · exact runActs_keeps (f := fun x : State × Assembly => x.1.free)
      (fun act h x => by simp [assemblyActs_each n act h x]) _
  · exact runActs_keeps (f := fun x : State × Assembly => x.1.ct)
      (fun act h x => by simp [assemblyActs_each n act h x]) _
  · exact runActs_keeps (f := fun x : State × Assembly => x.1.rtu)
      (fun act h x => by simp [assemblyActs_each n act h x]) _
  · exact runActs_keeps (f := fun x : State × Assembly => x.1.out)
      (fun act h x => by simp [assemblyActs_each n act h x]) _
  · exact runActs_keeps (f := fun x : State × Assembly => x.1.comp)
      (fun act h x => by simp [assemblyActs_each n act h x]) _
  · exact runActs_keeps (f := fun x : State × Assembly => x.1.sf)
      (fun act h x => by simp [assemblyActs_each n act h x]) _
  · exact runActs_keeps (f := fun x : State × Assembly => x.1.os)
      (fun act h x => by simp [assemblyActs_each n act h x]) _
  · exact runActs_keeps (f := fun x : State × Assembly => x.1.mon)
      (fun act h x => by simp [assemblyActs_each n act h x]) _

@[simp] theorem assembleLine_keeps (w : Nat) (l : List Packet) (s : State) :
    ((assembleLine w l s).1).pending = s.pending ∧
    ((assembleLine w l s).1).resetLow = s.resetLow ∧ ((assembleLine w l s).1).now = s.now ∧
    ((assembleLine w l s).1).free = s.free ∧ ((assembleLine w l s).1).ct = s.ct ∧
    ((assembleLine w l s).1).rtu = s.rtu ∧ ((assembleLine w l s).1).out = s.out ∧
    ((assembleLine w l s).1).comp = s.comp ∧ ((assembleLine w l s).1).sf = s.sf ∧
    ((assembleLine w l s).1).os = s.os ∧ ((assembleLine w l s).1).mon = s.mon := by
  simp [assembleLine, assembleAmong]

/-! ### Output raster (chapter 3) -/

@[simp] theorem setTx_keeps (w : List Word) (s : State) :
    (setTx w s).pending = s.pending ∧ (setTx w s).resetLow = s.resetLow ∧
    (setTx w s).now = s.now ∧ (setTx w s).free = s.free ∧ (setTx w s).ct = s.ct ∧
    (setTx w s).rtu = s.rtu ∧ (setTx w s).comp = s.comp ∧ (setTx w s).sf = s.sf ∧
    (setTx w s).os = s.os ∧ (setTx w s).mon = s.mon ∧ (setTx w s).mlu = s.mlu ∧
    (setTx w s).ce = s.ce ∧ (setTx w s).nq = s.nq := by
  simp [setTx]

@[simp] theorem sendPixels_keeps (k : LineKind) (f : Bool) (w : List Pixel) (s : State) :
    (sendPixels k f w s).pending = s.pending ∧ (sendPixels k f w s).resetLow = s.resetLow ∧
    (sendPixels k f w s).now = s.now ∧ (sendPixels k f w s).free = s.free ∧
    (sendPixels k f w s).ct = s.ct ∧ (sendPixels k f w s).rtu = s.rtu ∧
    (sendPixels k f w s).comp = s.comp ∧ (sendPixels k f w s).sf = s.sf ∧
    (sendPixels k f w s).os = s.os ∧ (sendPixels k f w s).mon = s.mon ∧
    (sendPixels k f w s).mlu = s.mlu ∧ (sendPixels k f w s).ce = s.ce ∧
    (sendPixels k f w s).nq = s.nq := by
  simp [sendPixels]

theorem dueFrameEndActs_each (s : State) :
    ∀ act ∈ dueFrameEndActs s, ∀ t,
    (act t).pending = t.pending ∧ (act t).resetLow = t.resetLow ∧ (act t).now = t.now ∧
    (act t).free = t.free ∧ (act t).ct = t.ct ∧ (act t).rtu = t.rtu ∧ (act t).comp = t.comp ∧
    (act t).sf = t.sf ∧ (act t).os = t.os ∧ (act t).mlu = t.mlu ∧ (act t).ce = t.ce := by
  have h := frameEndActs_each s
  unfold dueFrameEndActs
  split_ifs
  · simp only [List.mem_cons, forall_eq_or_imp]
    exact ⟨by simp, fun act ha t => by simp [h act ha t]⟩
  · simp

@[simp] theorem dueFrameEndActs_run (s : State) (t : State) :
    (runActs (dueFrameEndActs s) t).pending = t.pending ∧
    (runActs (dueFrameEndActs s) t).resetLow = t.resetLow ∧
    (runActs (dueFrameEndActs s) t).now = t.now ∧ (runActs (dueFrameEndActs s) t).free = t.free ∧
    (runActs (dueFrameEndActs s) t).ct = t.ct ∧ (runActs (dueFrameEndActs s) t).rtu = t.rtu ∧
    (runActs (dueFrameEndActs s) t).comp = t.comp ∧ (runActs (dueFrameEndActs s) t).sf = t.sf ∧
    (runActs (dueFrameEndActs s) t).os = t.os ∧ (runActs (dueFrameEndActs s) t).mlu = t.mlu ∧
    (runActs (dueFrameEndActs s) t).ce = t.ce := by
  refine ⟨?_, ?_, ?_, ?_, ?_, ?_, ?_, ?_, ?_, ?_, ?_⟩ <;>
    exact runActs_keeps (fun act h x => by simp [dueFrameEndActs_each s act h x]) t

theorem dueActivationActs_each (s : State) :
    ∀ act ∈ dueActivationActs s, ∀ t,
    (act t).pending = t.pending ∧ (act t).resetLow = t.resetLow ∧ (act t).now = t.now ∧
    (act t).free = t.free := by
  have h := activationActs_each s
  unfold dueActivationActs
  split_ifs
  · simp
  · simp only [List.mem_cons, forall_eq_or_imp]
    exact ⟨by simp, fun act ha t => by simp [h act ha t]⟩

@[simp] theorem dueActivationActs_run (s : State) (t : State) :
    (runActs (dueActivationActs s) t).pending = t.pending ∧
    (runActs (dueActivationActs s) t).resetLow = t.resetLow ∧
    (runActs (dueActivationActs s) t).now = t.now ∧
    (runActs (dueActivationActs s) t).free = t.free := by
  refine ⟨?_, ?_, ?_, ?_⟩ <;>
    exact runActs_keeps (fun act h x => by simp [dueActivationActs_each s act h x]) t

/-! ### Events of one moment -/

@[simp] theorem interleaved_keeps {α : Type} (xs ys : List α) (s : State) :
    ((interleaved xs ys s).2).pending = s.pending ∧
    ((interleaved xs ys s).2).resetLow = s.resetLow ∧ ((interleaved xs ys s).2).now = s.now ∧
    ((interleaved xs ys s).2).ct = s.ct ∧ ((interleaved xs ys s).2).rtu = s.rtu ∧
    ((interleaved xs ys s).2).out = s.out ∧ ((interleaved xs ys s).2).comp = s.comp ∧
    ((interleaved xs ys s).2).sf = s.sf ∧ ((interleaved xs ys s).2).os = s.os ∧
    ((interleaved xs ys s).2).mon = s.mon ∧ ((interleaved xs ys s).2).mlu = s.mlu ∧
    ((interleaved xs ys s).2).ce = s.ce ∧ ((interleaved xs ys s).2).nq = s.nq := by
  unfold interleaved; split_ifs <;> simp

@[simp] theorem frameEndActs_quiet (s : State) : Quiet (frameEndActs s) := by
  exact fun act h t => by simp [frameEndActs_each s act h t]

@[simp] theorem settleActs_quiet (s : State) : Quiet (settleActs s) := by
  exact fun act h t => by simp [settleActs_each s act h t]

@[simp] theorem activationActs_quiet (s : State) : Quiet (activationActs s) := by
  exact fun act h t => by simp [activationActs_each s act h t]

@[simp] theorem endParseActs_quiet (s : State) : Quiet (endParseActs s) := by
  exact fun act h t => by simp [endParseActs_each s act h t]

@[simp] theorem dueFrameEndActs_quiet (s : State) : Quiet (dueFrameEndActs s) := by
  exact fun act h t => by simp [dueFrameEndActs_each s act h t]

@[simp] theorem dueActivationActs_quiet (s : State) : Quiet (dueActivationActs s) := by
  exact fun act h t => by simp [dueActivationActs_each s act h t]

@[simp] theorem lineEventActs_quiet (b : Bool) (others : List (State → State)) (s : State) :
    Quiet (lineEventActs b others s).1 ↔ Quiet others := by
  unfold lineEventActs; split_ifs <;> simp

@[simp] theorem lineEventActs_keeps (b : Bool) (others : List (State → State)) (s : State) :
    ((lineEventActs b others s).2).pending = s.pending ∧
    ((lineEventActs b others s).2).resetLow = s.resetLow ∧
    ((lineEventActs b others s).2).now = s.now ∧ ((lineEventActs b others s).2).ct = s.ct ∧
    ((lineEventActs b others s).2).rtu = s.rtu ∧ ((lineEventActs b others s).2).out = s.out ∧
    ((lineEventActs b others s).2).comp = s.comp ∧ ((lineEventActs b others s).2).sf = s.sf ∧
    ((lineEventActs b others s).2).os = s.os ∧ ((lineEventActs b others s).2).mon = s.mon ∧
    ((lineEventActs b others s).2).mlu = s.mlu ∧ ((lineEventActs b others s).2).ce = s.ce ∧
    ((lineEventActs b others s).2).nq = s.nq := by
  simp [lineEventActs]

@[simp] theorem lineEvents_keeps (b : Bool) {others : List (State → State)} (s : State)
    (h : Quiet others) :
    (lineEvents b others s).pending = s.pending ∧
    (lineEvents b others s).resetLow = s.resetLow ∧ (lineEvents b others s).now = s.now := by
  simp [lineEvents, Quiet.run ((lineEventActs_quiet b others s).2 h)]

@[simp] theorem activeLine_keeps (f : Bool) (w : List Pixel) (s : State) :
    (activeLine f w s).pending = s.pending ∧ (activeLine f w s).resetLow = s.resetLow ∧
    (activeLine f w s).now = s.now ∧ (activeLine f w s).ct = s.ct ∧
    (activeLine f w s).rtu = s.rtu ∧ (activeLine f w s).mlu = s.mlu ∧ (activeLine f w s).ce = s.ce := by
  simp [activeLine]

/-- Acts of an assembly and of quiet events, in any order. -/
theorem assembleAmong_each {events : List (State → State)} {n : Nat} {s : State}
    (h : Quiet events) :
    ∀ act ∈ (interleaved (events.map fun act => Prod.map act id) (assemblyActs n) s).1,
    ∀ x : State × Assembly, (act x).1.pending = x.1.pending ∧
    (act x).1.resetLow = x.1.resetLow ∧ (act x).1.now = x.1.now := by
  intro act ha x
  rcases mem_interleaved.1 ha with ha | ha
  · obtain ⟨e, he, rfl⟩ := List.mem_map.1 ha
    exact h e he x.1
  · simp [assemblyActs_each n act ha x]

@[simp] theorem assembleAmong_keeps {events : List (State → State)} (w : Nat) (l : List Packet)
    (s : State)
    (h : Quiet events) :
    ((assembleAmong events w l s).1).pending = s.pending ∧
    ((assembleAmong events w l s).1).resetLow = s.resetLow ∧ ((assembleAmong events w l s).1).now = s.now := by
  simp only [assembleAmong]
  refine ⟨?_, ?_, ?_⟩
  · exact Eq.trans (runActs_keeps (f := fun x : State × Assembly => x.1.pending) (fun act ha x =>
      (assembleAmong_each h act ha x).1) _) (by exact (interleaved_keeps _ _ s).1)
  · exact Eq.trans (runActs_keeps (f := fun x : State × Assembly => x.1.resetLow) (fun act ha x =>
      (assembleAmong_each h act ha x).2.1) _) (by exact (interleaved_keeps _ _ s).2.1)
  · exact Eq.trans (runActs_keeps (f := fun x : State × Assembly => x.1.now) (fun act ha x =>
      (assembleAmong_each h act ha x).2.2) _) (by exact (interleaved_keeps _ _ s).2.2.1)

@[simp] theorem mgmtLine_keeps (f : Bool) (w : Nat) (l : List Packet) (b : Bool)
    {others : List (State → State)} (s : State)
    (h : Quiet others) :
    (mgmtLine f w l b others s).pending = s.pending ∧
    (mgmtLine f w l b others s).resetLow = s.resetLow ∧ (mgmtLine f w l b others s).now = s.now := by
  simp [mgmtLine, h]

@[simp] theorem outputLineStart_keeps (k : LineKind) (f : Bool) (w : List Pixel) (l : List Packet)
    (b : Bool) {others : List (State → State)} (s : State)
    (h : Quiet others) :
    (outputLineStart k f w l b others s).pending = s.pending ∧
    (outputLineStart k f w l b others s).resetLow = s.resetLow ∧ (outputLineStart k f w l b others s).now = s.now := by
  cases k <;> simp [outputLineStart, h]

@[simp] theorem outputFrameStart_keeps (it : Bool) (g : Geometry) (p at' : Nat) (s : State) :
    (outputFrameStart it g p at' s).pending = s.pending ∧
    (outputFrameStart it g p at' s).resetLow = s.resetLow ∧
    (outputFrameStart it g p at' s).now = s.now ∧ (outputFrameStart it g p at' s).free = s.free ∧
    (outputFrameStart it g p at' s).ct = s.ct ∧ (outputFrameStart it g p at' s).rtu = s.rtu ∧
    (outputFrameStart it g p at' s).mlu = s.mlu ∧ (outputFrameStart it g p at' s).ce = s.ce := by
  simp only [outputFrameStart]; split_ifs <;> simp

@[simp] theorem internalLine_keeps (i : Nat) {others : List (State → State)} (s : State)
    (h : Quiet others) :
    (internalLine i others s).pending = s.pending ∧
    (internalLine i others s).resetLow = s.resetLow ∧ (internalLine i others s).now = s.now := by
  simp [internalLine, h]

@[simp] theorem offerLock_keeps (a b : LockState) (c : LockCause) (s : State) :
    (offerLock a b c s).pending = s.pending ∧ (offerLock a b c s).resetLow = s.resetLow ∧
    (offerLock a b c s).now = s.now ∧ (offerLock a b c s).free = s.free ∧
    (offerLock a b c s).ct = s.ct ∧ (offerLock a b c s).rtu = s.rtu ∧
    (offerLock a b c s).out = s.out ∧ (offerLock a b c s).comp = s.comp ∧
    (offerLock a b c s).sf = s.sf ∧ (offerLock a b c s).os = s.os ∧
    (offerLock a b c s).mon = s.mon ∧ (offerLock a b c s).mlu = s.mlu ∧
    (offerLock a b c s).ce = s.ce := by
  simp [offerLock]

@[simp] theorem changeLock_keeps (n : LockState) (s : State) :
    (changeLock n s).pending = s.pending ∧ (changeLock n s).resetLow = s.resetLow ∧
    (changeLock n s).now = s.now ∧ (changeLock n s).free = s.free ∧ (changeLock n s).ct = s.ct ∧
    (changeLock n s).out = s.out ∧ (changeLock n s).comp = s.comp ∧ (changeLock n s).sf = s.sf ∧
    (changeLock n s).os = s.os ∧ (changeLock n s).mlu = s.mlu ∧ (changeLock n s).ce = s.ce ∧
    (changeLock n s).nq = s.nq := by
  simp [changeLock]

@[simp] theorem startAcquire_keeps (s : State) :
    (startAcquire s).pending = s.pending ∧ (startAcquire s).resetLow = s.resetLow ∧
    (startAcquire s).now = s.now ∧ (startAcquire s).free = s.free ∧ (startAcquire s).ct = s.ct ∧
    (startAcquire s).out = s.out ∧ (startAcquire s).comp = s.comp ∧ (startAcquire s).sf = s.sf ∧
    (startAcquire s).os = s.os ∧ (startAcquire s).mon = s.mon ∧ (startAcquire s).mlu = s.mlu ∧
    (startAcquire s).ce = s.ce ∧ (startAcquire s).nq = s.nq := by
  simp [startAcquire]

@[simp] theorem startFlywheel_keeps (d : Nat) (s : State) :
    (startFlywheel d s).pending = s.pending ∧ (startFlywheel d s).resetLow = s.resetLow ∧
    (startFlywheel d s).now = s.now ∧ (startFlywheel d s).free = s.free ∧
    (startFlywheel d s).ct = s.ct ∧ (startFlywheel d s).out = s.out ∧
    (startFlywheel d s).comp = s.comp ∧ (startFlywheel d s).sf = s.sf ∧
    (startFlywheel d s).os = s.os ∧ (startFlywheel d s).mon = s.mon ∧
    (startFlywheel d s).mlu = s.mlu ∧ (startFlywheel d s).ce = s.ce ∧
    (startFlywheel d s).nq = s.nq := by
  simp [startFlywheel]

theorem dropActs_each (l : Option InputLine) :
    ∀ act ∈ dropActs l, ∀ t,
    (act t).pending = t.pending ∧ (act t).resetLow = t.resetLow ∧ (act t).now = t.now ∧
    (act t).free = t.free ∧ (act t).ct = t.ct ∧ (act t).rtu = t.rtu ∧ (act t).out = t.out ∧
    (act t).comp = t.comp ∧ (act t).sf = t.sf ∧ (act t).os = t.os ∧ (act t).mon = t.mon ∧
    (act t).ce = t.ce ∧ (act t).nq = t.nq := by
  unfold dropActs; split <;> simp

@[simp] theorem dropActs_run (l : Option InputLine) (t : State) :
    (runActs (dropActs l) t).pending = t.pending ∧
    (runActs (dropActs l) t).resetLow = t.resetLow ∧ (runActs (dropActs l) t).now = t.now ∧
    (runActs (dropActs l) t).free = t.free ∧ (runActs (dropActs l) t).ct = t.ct ∧
    (runActs (dropActs l) t).rtu = t.rtu ∧ (runActs (dropActs l) t).out = t.out ∧
    (runActs (dropActs l) t).comp = t.comp ∧ (runActs (dropActs l) t).sf = t.sf ∧
    (runActs (dropActs l) t).os = t.os ∧ (runActs (dropActs l) t).mon = t.mon ∧
    (runActs (dropActs l) t).ce = t.ce ∧ (runActs (dropActs l) t).nq = t.nq := by
  refine ⟨?_, ?_, ?_, ?_, ?_, ?_, ?_, ?_, ?_, ?_, ?_, ?_, ?_⟩ <;>
    exact runActs_keeps (fun act h x => by simp [dropActs_each l act h x]) t

@[simp] theorem dropActs_quiet (l : Option InputLine) : Quiet (dropActs l) := by
  exact fun act h t => by simp [dropActs_each l act h t]

@[simp] theorem countLockLoss_keeps (s : State) :
    (countLockLoss s).pending = s.pending ∧ (countLockLoss s).resetLow = s.resetLow ∧
    (countLockLoss s).now = s.now ∧ (countLockLoss s).free = s.free ∧
    (countLockLoss s).ct = s.ct ∧ (countLockLoss s).out = s.out ∧
    (countLockLoss s).comp = s.comp ∧ (countLockLoss s).sf = s.sf ∧ (countLockLoss s).os = s.os ∧
    (countLockLoss s).mon = s.mon ∧ (countLockLoss s).mlu = s.mlu ∧ (countLockLoss s).ce = s.ce ∧
    (countLockLoss s).nq = s.nq := by
  simp [countLockLoss]

@[simp] theorem startInternalFrame_keeps (at' : Nat) {others : List (State → State)} (s : State)
    (h : Quiet others) :
    (startInternalFrame at' others s).pending = s.pending ∧
    (startInternalFrame at' others s).resetLow = s.resetLow ∧ (startInternalFrame at' others s).now = s.now := by
  simp only [startInternalFrame]; split_ifs <;> simp [h]

@[simp] theorem departLocked_keeps (n : LockState) (c : LockCause) {errors : List
    (State → State)} (s : State)
    (h : Quiet errors) :
    (departLocked n c errors s).pending = s.pending ∧
    (departLocked n c errors s).resetLow = s.resetLow ∧ (departLocked n c errors s).now = s.now := by
  simp [departLocked, h]

@[simp] theorem becomeCandidate_keeps (f : Option InputFrame) (s : State) :
    (becomeCandidate f s).pending = s.pending ∧ (becomeCandidate f s).resetLow = s.resetLow ∧
    (becomeCandidate f s).now = s.now ∧ (becomeCandidate f s).free = s.free ∧
    (becomeCandidate f s).ct = s.ct ∧ (becomeCandidate f s).out = s.out ∧
    (becomeCandidate f s).comp = s.comp ∧ (becomeCandidate f s).sf = s.sf ∧
    (becomeCandidate f s).os = s.os ∧ (becomeCandidate f s).mon = s.mon ∧
    (becomeCandidate f s).mlu = s.mlu ∧ (becomeCandidate f s).ce = s.ce ∧
    (becomeCandidate f s).nq = s.nq := by
  simp [becomeCandidate]

@[simp] theorem enterLocked_keeps (f : InputFrame) (s : State) :
    (enterLocked f s).pending = s.pending ∧ (enterLocked f s).resetLow = s.resetLow ∧
    (enterLocked f s).now = s.now ∧ (enterLocked f s).free = s.free ∧
    (enterLocked f s).ct = s.ct ∧ (enterLocked f s).out = s.out ∧
    (enterLocked f s).comp = s.comp ∧ (enterLocked f s).sf = s.sf ∧ (enterLocked f s).os = s.os ∧
    (enterLocked f s).mlu = s.mlu ∧ (enterLocked f s).ce = s.ce := by
  simp [enterLocked]

@[simp] theorem takeFrameStart_keeps (f : Option InputFrame) {errors : List (State → State)}
    (s : State)
    (h : Quiet errors) :
    (takeFrameStart f errors s).pending = s.pending ∧
    (takeFrameStart f errors s).resetLow = s.resetLow ∧ (takeFrameStart f errors s).now = s.now := by
  unfold takeFrameStart; split <;> (repeat' split) <;> simp [h]

@[simp] theorem endLine_keeps (s : State) :
    (endLine s).pending = s.pending ∧ (endLine s).resetLow = s.resetLow ∧
    (endLine s).now = s.now ∧ (endLine s).free = s.free ∧ (endLine s).ct = s.ct ∧
    (endLine s).out = s.out ∧ (endLine s).comp = s.comp ∧ (endLine s).sf = s.sf ∧
    (endLine s).os = s.os ∧ (endLine s).mon = s.mon ∧ (endLine s).mlu = s.mlu ∧
    (endLine s).ce = s.ce ∧ (endLine s).nq = s.nq := by
  simp only [endLine]; split <;> simp

@[simp] theorem carryLine_keeps (f : Bool) (a : InputLine) (b : Option InputLine) {errors : List
    (State → State)} (s : State)
    
    (h : Quiet errors) :
    (carryLine f a b errors s).pending = s.pending ∧
    (carryLine f a b errors s).resetLow = s.resetLow ∧ (carryLine f a b errors s).now = s.now := by
  simp only [carryLine]; split_ifs <;> simp [h]

@[simp] theorem followInput_keeps (a b : Option InputLine) (i : Nat) {errors : List
    (State → State)} (s : State)
    
    (h : Quiet errors) :
    (followInput a b i errors s).pending = s.pending ∧
    (followInput a b i errors s).resetLow = s.resetLow ∧ (followInput a b i errors s).now = s.now := by
  unfold followInput; split <;> (repeat' split) <;> simp [h]

@[simp] theorem takePixelWord_keeps (w : BitVec 31) (s : State) :
    (takePixelWord w s).pending = s.pending ∧ (takePixelWord w s).resetLow = s.resetLow ∧
    (takePixelWord w s).now = s.now ∧ (takePixelWord w s).out = s.out ∧
    (takePixelWord w s).comp = s.comp := by
  simp only [takePixelWord]; split <;> (repeat' split) <;> simp

@[simp] theorem takeLineStart_keeps (w : BitVec 31) (c : Nat) (s : State) :
    (takeLineStart w c s).pending = s.pending ∧ (takeLineStart w c s).resetLow = s.resetLow := by
  simp only [takeLineStart]; split_ifs <;> simp

@[simp] theorem expireAcquire_keeps (d : Nat) (s : State) :
    (expireAcquire d s).pending = s.pending ∧ (expireAcquire d s).resetLow = s.resetLow ∧
    (expireAcquire d s).free = s.free ∧ (expireAcquire d s).ct = s.ct ∧
    (expireAcquire d s).out = s.out ∧ (expireAcquire d s).comp = s.comp ∧
    (expireAcquire d s).sf = s.sf ∧ (expireAcquire d s).os = s.os ∧
    (expireAcquire d s).mlu = s.mlu ∧ (expireAcquire d s).ce = s.ce := by
  simp [expireAcquire]

@[simp] theorem expireFlywheel_keeps (d : Nat) (s : State) :
    (expireFlywheel d s).pending = s.pending ∧ (expireFlywheel d s).resetLow = s.resetLow := by
  simp only [expireFlywheel]; split_ifs <;> simp

@[simp] theorem nextInternalFrame_keeps (s : State) :
    (nextInternalFrame s).pending = s.pending ∧ (nextInternalFrame s).resetLow = s.resetLow := by
  simp only [nextInternalFrame]; split_ifs <;> simp

@[simp] theorem paceInternal_keeps (s : State) :
    (paceInternal s).pending = s.pending ∧ (paceInternal s).resetLow = s.resetLow := by
  simp only [paceInternal]; split_ifs <;> simp

end Sys2Proof.Machine
end

