-- ==== Sys2Proof/Laws/Engine.lean ====
section
/-! SUPPORT. What becomes of a sequenced command that the engine can take at once. -/

namespace Sys2Proof.Machine

/-- The state in which an accepted command begins: its sequence is the last accepted one and a slot is
reserved for it. -/
def State.accepted (s : State) (seq : Byte) : State :=
  s.withCe { s.ce with reservations := s.ce.reservations + 1, lastSeq := some seq }

/-- What it takes for an addressed row to act: RESET high, the clearing done, an address 1..30. -/
theorem addressable_iff {s : State} : s.addressable = true ↔
    s.resetLow = false ∧ s.os.clearing = false ∧ 1 ≤ s.mlu.address ∧ s.mlu.address ≤ 30 := by
  simp [State.addressable, State.reachable, and_assoc]

/-- A row handed over to a part that cannot take it is passed over. -/
theorem handOver_unreachable {s : State} {seq code : Byte} {p : List Byte}
    (h : s.addressable = false) : handOver seq code p s = .next s := by
  simp [handOver, h]

/-- A sequence that is new is taken as new. -/
theorem intakeSequenced_new {q : Queued} {s : State} (h : newSequence s.ce.lastSeq q.seq = true) :
    intakeSequenced q s = takeNew q s := by
  unfold newSequence at h
  unfold intakeSequenced
  split
  · rfl
  · rename_i a ha
    rw [ha] at h
    simp only [decide_eq_true_eq] at h
    simp only [if_pos h]

/-- A new sequence with a place and a slot free joins the queue. -/
theorem takeNew_room {q : Queued} {s : State} (hq : s.ce.queue.length < 8)
    (hs : s.ce.sequencedResponses + s.ce.reservations < 8) : takeNew q s = s.waiting q := by
  unfold takeNew
  rw [if_pos (by simp [CommandEngine.placeFree, CommandEngine.slotFree, Config.commandPlaces, hq, hs])]
  rfl

/-- Nothing begins while the engine cannot. -/
theorem settleEngine_busy {s : State} (h : canBegin s = false) : settleEngine s = s := by
  have hb : beginNext s = s := by simp [beginNext, h]
  refine runActs_induct (P := fun x => x = s) (fun act ha x hx => ?_) rfl
  rw [List.eq_of_mem_replicate ha, hx, hb]

/-- A row handed over while the engine is ready begins at once. -/
theorem handOver_ready {s : State} {seq code : Byte} {p : List Byte} (h : Ready seq s)
    (hc : code ≠ cancelCode) (hr : code ≠ nodeResetCode) :
    handOver seq code p s = .next (beginQueued ⟨true, seq, code, p⟩ (s.accepted seq)) := by
  obtain ⟨hr1, hr2, hr3, hr4, h3, h4, h5, h6, h7⟩ := h
  have h1 := addressable_iff.2 ⟨hr1, hr2, hr3, hr4⟩
  unfold handOver
  rw [if_pos h1, intakeAddressed, if_neg hc, if_neg hr, intakeSequenced_new h7,
    takeNew_room (by rw [h5]; decide) h6]
  congr 1
  simp only [settleEngine, settleActs, State.waiting, h5, List.nil_append, List.length_singleton,
    List.replicate_one, runActs_cons, runActs_nil, beginNext]
  rw [if_pos (by simp [canBegin, h3, h4])]
  congr 1
  simp [State.withCe, State.accepted, h5]

/-- A row handed over while the engine is busy joins the queue. -/
theorem handOver_busy {s : State} {seq code : Byte} {p : List Byte} (h1 : s.addressable = true)
    (hb : s.ce.exec.isSome = true ∨ s.os.op.isSome = true)
    (hq : s.ce.queue.length < 8) (hs : s.ce.sequencedResponses + s.ce.reservations < 8)
    (hn : newSequence s.ce.lastSeq seq = true) (hc : code ≠ cancelCode)
    (hr : code ≠ nodeResetCode) :
    handOver seq code p s = .next (s.waiting ⟨true, seq, code, p⟩) := by
  have hcan : canBegin (s.waiting ⟨true, seq, code, p⟩) = false := by
    rcases hb with hb | hb
    · cases he : s.ce.exec <;> simp_all [canBegin, State.waiting]
    · cases he : s.os.op <;> simp_all [canBegin, State.waiting]
  unfold handOver
  rw [if_pos h1, intakeAddressed, if_neg hc, if_neg hr, intakeSequenced_new hn,
    takeNew_room hq hs]
  congr 1
  exact settleEngine_busy hcan

/-- A command done at its beginning is answered: `e` is what its effect leaves, seen from before
acceptance. -/
theorem beginQueued_done {s e : State} {seq code : Byte} {p d : List Byte} {st : Status}
    (h : runSequenced code p (s.accepted seq) = (e.accepted seq, .done st d)) :
    beginQueued ⟨true, seq, code, p⟩ (s.accepted seq) = e.answered seq code st d := by
  simp only [beginQueued, if_true, h]
  simp [answer, queueResponse, cacheResponse, State.accepted, State.answered, State.withCe,
    Config.commandPlaces]

/-- A command that stays is in execution. -/
theorem beginQueued_stays {s e : State} {seq code : Byte} {p : List Byte} {pr : Progress}
    (h : runSequenced code p (s.accepted seq) = (e.accepted seq, .stays pr)) :
    beginQueued ⟨true, seq, code, p⟩ (s.accepted seq) = e.executing seq code p pr := by
  simp only [beginQueued, if_true, h]
  simp [State.accepted, State.executing, State.withCe]

end Sys2Proof.Machine
end

