-- ==== Sys2Proof/Laws/Memory.lean ====
section
/-! SUPPORT. Reads, writes and the canonical form of memory. -/

namespace Sys2Proof.Machine

/-! ### One octet -/

@[simp] theorem Memory.read_nil (a : Nat) : Memory.read [] a = 0 := rfl

/-- An address below every listed one reads 0. -/
theorem Memory.read_below {m : Memory} {a : Nat} (h : ∀ c ∈ m, a < c.1) : Memory.read m a = 0 := by
  induction m with
  | nil => rfl
  | cons c m ih =>
    have hc := h c (List.mem_cons_self ..)
    simp only [Memory.read]
    rw [if_neg (by omega)]
    exact ih fun d hd => h d (List.mem_cons_of_mem _ hd)

/-- The entries of a written memory: old ones, or the written octet. -/
theorem Memory.mem_write {m : Memory} {a : Nat} {v : Byte} {c : Host.Cell}
    (h : c ∈ Memory.write m a v) : c ∈ m ∨ (c = (a, v) ∧ v ≠ 0) := by
  induction m with
  | nil =>
    simp only [Memory.write] at h
    split at h
    · simp at h
    · simp at h; exact .inr ⟨h, ‹_›⟩
  | cons d m ih =>
    obtain ⟨b, w⟩ := d
    simp only [Memory.write] at h
    split at h
    · split at h
      · exact .inl h
      · rcases List.mem_cons.1 h with h | h
        · exact .inr ⟨h, ‹_›⟩
        · exact .inl h
    · split at h
      · split at h
        · exact .inl (List.mem_cons_of_mem _ h)
        · rcases List.mem_cons.1 h with h | h
          · exact .inr ⟨h, ‹_›⟩
          · exact .inl (List.mem_cons_of_mem _ h)
      · rcases List.mem_cons.1 h with h | h
        · exact .inl (h ▸ List.mem_cons_self ..)
        · rcases ih h with h | h
          · exact .inl (List.mem_cons_of_mem _ h)
          · exact .inr h

/-- A write keeps the canonical form. -/
theorem Memory.write_wf {m : Memory} (h : Memory.Wf m) (a : Nat) (v : Byte) :
    Memory.Wf (Memory.write m a v) := by
  obtain ⟨hs, hn⟩ := h
  refine ⟨?_, ?_⟩
  · induction m with
    | nil => simp only [Memory.write]; split <;> simp
    | cons d m ih =>
      obtain ⟨b, w⟩ := d
      have hs' := List.pairwise_cons.1 hs
      simp only [Memory.write]
      split
      · split
        · exact hs
        · refine List.pairwise_cons.2 ⟨?_, hs⟩
          intro c hc
          rcases List.mem_cons.1 hc with rfl | hc
          · assumption
          · exact Nat.lt_trans ‹a < b› (hs'.1 c hc)
      · split
        · subst_vars
          split
          · exact hs'.2
          · exact List.pairwise_cons.2 ⟨fun c hc => hs'.1 c hc, hs'.2⟩
        · refine List.pairwise_cons.2 ⟨?_, ih hs'.2 fun c hc => hn c (List.mem_cons_of_mem _ hc)⟩
          intro c hc
          rcases Memory.mem_write hc with hc | ⟨rfl, _⟩
          · exact hs'.1 c hc
          · show b < a; omega
  · intro c hc
    rcases Memory.mem_write hc with hc | ⟨rfl, hv⟩
    · exact hn c hc
    · exact hv

/-- A read after a write: the written octet there, every other address as before. -/
theorem Memory.read_write {m : Memory} (h : Memory.Wf m) (a b : Nat) (v : Byte) :
    Memory.read (Memory.write m a v) b = if b = a then v else Memory.read m b := by
  induction m with
  | nil =>
    simp only [Memory.write]
    split
    · simp_all
    · simp [Memory.read]
  | cons d m ih =>
    obtain ⟨c, w⟩ := d
    obtain ⟨hs, hn⟩ := h
    have hs' := List.pairwise_cons.1 hs
    have hwf : Memory.Wf m := ⟨hs'.2, fun e he => hn e (List.mem_cons_of_mem _ he)⟩
    have hbelow : ∀ x, x ≤ c → Memory.read m x = 0 := fun x hx =>
      Memory.read_below fun e he => Nat.lt_of_le_of_lt hx (hs'.1 e he)
    simp only [Memory.write]
    split
    · have hac : a < c := ‹_›
      split
      · simp only [Memory.read]
        split
        · subst_vars; rw [if_neg (by omega)]
        · split
          · subst_vars; rw [hbelow _ (by omega)]
          · rfl
      · simp only [Memory.read]
    · split
      · subst_vars
        split
        · split
          · subst_vars; rw [hbelow _ (Nat.le_refl _)]
          · simp only [Memory.read]; rw [if_neg ‹_›]
        · simp only [Memory.read]
          split <;> rfl
      · simp only [Memory.read]
        split
        · subst_vars; rw [if_neg (by omega)]
        · rw [ih hwf]

/-! ### Runs -/

/-- Writing a run keeps the canonical form. -/
theorem Memory.writeRun_wf {m : Memory} (h : Memory.Wf m) (a : Nat) (vs : List Byte) :
    Memory.Wf (Memory.writeRun m a vs) := by
  induction vs generalizing m a with
  | nil => exact h
  | cons v vs ih => exact ih (Memory.write_wf h a v) (a + 1)

/-- Writing a run less the skipped addresses keeps the canonical form. -/
theorem Memory.writeMasked_wf (skip : Nat → Bool) {m : Memory} (h : Memory.Wf m) (a : Nat)
    (vs : List Byte) : Memory.Wf (Memory.writeMasked skip m a vs) := by
  induction vs generalizing m a with
  | nil => exact h
  | cons v vs ih =>
    refine ih ?_ (a + 1)
    split
    · exact h
    · exact Memory.write_wf h a v

/-- What a masked run leaves at each address: the octet written where the run reaches and the mask
does not, else what stood there. -/
theorem Memory.read_writeMasked (skip : Nat → Bool) {m : Memory} (h : Memory.Wf m) (a : Nat)
    (vs : List Byte) (b : Nat) :
    Memory.read (Memory.writeMasked skip m a vs) b =
      if a ≤ b ∧ b < a + vs.length ∧ skip b = false then vs.getD (b - a) 0
      else Memory.read m b := by
  induction vs generalizing m a with
  | nil =>
    rw [if_neg (by simp; omega)]; rfl
  | cons v vs ih =>
    have hwf : Memory.Wf (if skip a then m else Memory.write m a v) := by
      split
      · exact h
      · exact Memory.write_wf h a v
    have hm : Memory.read (if skip a then m else Memory.write m a v) b =
        if b = a ∧ skip a = false then v else Memory.read m b := by
      cases hsk : skip a
      · simp [Memory.read_write h]
      · simp
    rw [Memory.writeMasked, ih hwf, hm]
    by_cases hb : b = a
    · subst hb
      cases hsk : skip b
      · rw [if_neg (by omega), if_pos ⟨rfl, rfl⟩, if_pos ⟨Nat.le_refl _, by simp, rfl⟩]; simp
      · rw [if_neg (by simp), if_neg (by simp), if_neg (by simp)]
    · by_cases hlt : a + 1 ≤ b ∧ b < a + 1 + vs.length ∧ skip b = false
      · rw [if_pos hlt, if_pos ⟨by omega, by simp only [List.length_cons]; omega, hlt.2.2⟩]
        obtain ⟨k, rfl⟩ : ∃ k, b = a + 1 + k := ⟨b - (a + 1), by omega⟩
        rw [show a + 1 + k - (a + 1) = k by omega, show a + 1 + k - a = k + 1 by omega,
          List.getD_cons_succ]
      · rw [if_neg hlt, if_neg (by simp [hb]), if_neg ?_]
        rintro ⟨h1, h2, h3⟩
        exact hlt ⟨by omega, by simp only [List.length_cons] at h2; omega, h3⟩

/-- A run is a masked run that skips nothing. -/
theorem Memory.writeRun_eq (m : Memory) (a : Nat) (vs : List Byte) :
    Memory.writeRun m a vs = Memory.writeMasked (fun _ => false) m a vs := by
  induction vs generalizing m a with
  | nil => rfl
  | cons v vs ih => simp [Memory.writeRun, Memory.writeMasked, ih]

/-- The store after reset is in canonical form. -/
theorem reset_store_wf : Memory.Wf State.reset.os.cells := by
  simp [State.reset, OverlayStore.initial, Memory.Wf]

/-! ### Addresses listed -/

/-- The addresses listed after a masked run lie among those before and those of the run. -/
theorem Memory.mem_writeMasked (skip : Nat → Bool) {m : Memory} {a : Nat} {vs : List Byte}
    {c : Host.Cell} (h : c ∈ Memory.writeMasked skip m a vs) :
    c ∈ m ∨ (a ≤ c.1 ∧ c.1 < a + vs.length) := by
  induction vs generalizing m a with
  | nil => exact .inl h
  | cons v vs ih =>
    simp only [List.length_cons]
    rcases ih h with h | h
    · split at h
      · exact .inl h
      · rcases Memory.mem_write h with h | ⟨rfl, _⟩
        · exact .inl h
        · exact .inr (by simp)
    · exact .inr (by omega)

end Sys2Proof.Machine
end

