-- ==== Sys2Proof/Laws/PerInstr.lean ====
section
/-! SUPPORT. One lemma per row: what well-formedness says of the packet that carries it. -/

namespace Sys2Proof.Laws

/-- A well-formed row that a controller sends as a sequenced command fits the payload of one packet, and
one sent under a code of R197 is not UNKNOWN_CODE (R139, R170). -/
def WellFormed.Statement (i : Instr) : Prop :=
  i.wellFormed = true → ∀ (seq code : Byte) (p : List Byte),
    Machine.sequencedRow seq code p = some i →
      p.length ≤ 240 ∧ (knownCodes.contains code = true → ∀ c q, i ≠ .unknownCode seq c q)

theorem wellFormed_of_sequencedRow (i : Instr) : WellFormed.Statement i := by
  intro hw seq code p h
  unfold Machine.sequencedRow at h
  split at h <;> first
    | (injection h with h
       subst h
       simp_all [Instr.wellFormed, payloadFits])
    | (split_ifs at h <;> (injection h with h; subst h; simp_all))
    | cases h

theorem WellFormed.powerOn : WellFormed.Statement .powerOn :=
  wellFormed_of_sequencedRow _
theorem WellFormed.pinReset : WellFormed.Statement .pinReset :=
  wellFormed_of_sequencedRow _
theorem WellFormed.resetRelease : WellFormed.Statement .resetRelease :=
  wellFormed_of_sequencedRow _
theorem WellFormed.inputLineStart (bits : BitVec 31) (clock : Nat) : WellFormed.Statement (.inputLineStart bits clock) :=
  wellFormed_of_sequencedRow _
theorem WellFormed.inputPixelWord (bits : BitVec 31) : WellFormed.Statement (.inputPixelWord bits) :=
  wellFormed_of_sequencedRow _
theorem WellFormed.acquireTimerExpiry : WellFormed.Statement .acquireTimerExpiry :=
  wellFormed_of_sequencedRow _
theorem WellFormed.flywheelExpiry : WellFormed.Statement .flywheelExpiry :=
  wellFormed_of_sequencedRow _
theorem WellFormed.internalLineStart : WellFormed.Statement .internalLineStart :=
  wellFormed_of_sequencedRow _
theorem WellFormed.holdoverLimit : WellFormed.Statement .holdoverLimit :=
  wellFormed_of_sequencedRow _
theorem WellFormed.editExpiry : WellFormed.Statement .editExpiry :=
  wellFormed_of_sequencedRow _
theorem WellFormed.sfBurstComplete : WellFormed.Statement .sfBurstComplete :=
  wellFormed_of_sequencedRow _
theorem WellFormed.ceBurstComplete : WellFormed.Statement .ceBurstComplete :=
  wellFormed_of_sequencedRow _
theorem WellFormed.storeChecksComplete : WellFormed.Statement .storeChecksComplete :=
  wellFormed_of_sequencedRow _
theorem WellFormed.reportCountdown (region : Fin 16) : WellFormed.Statement (.reportCountdown region) :=
  wellFormed_of_sequencedRow _
theorem WellFormed.commandBegin : WellFormed.Statement .commandBegin :=
  wellFormed_of_sequencedRow _
theorem WellFormed.unknownCode (seq code : Byte) (payload : List Byte) : WellFormed.Statement (.unknownCode seq code payload) :=
  wellFormed_of_sequencedRow _
theorem WellFormed.readInfo (seq : Byte) (payload : List Byte) : WellFormed.Statement (.readInfo seq payload) :=
  wellFormed_of_sequencedRow _
theorem WellFormed.readStatus (seq : Byte) (payload : List Byte) : WellFormed.Statement (.readStatus seq payload) :=
  wellFormed_of_sequencedRow _
theorem WellFormed.clearCounters (seq : Byte) (payload : List Byte) : WellFormed.Statement (.clearCounters seq payload) :=
  wellFormed_of_sequencedRow _
theorem WellFormed.setNotifyMask (seq : Byte) (payload : List Byte) : WellFormed.Statement (.setNotifyMask seq payload) :=
  wellFormed_of_sequencedRow _
theorem WellFormed.setTiming (seq : Byte) (payload : List Byte) : WellFormed.Statement (.setTiming seq payload) :=
  wellFormed_of_sequencedRow _
theorem WellFormed.editOpen (seq : Byte) (payload : List Byte) : WellFormed.Statement (.editOpen seq payload) :=
  wellFormed_of_sequencedRow _
theorem WellFormed.editCloseDiscard (seq : Byte) : WellFormed.Statement (.editCloseDiscard seq) :=
  wellFormed_of_sequencedRow _
theorem WellFormed.editCloseKeep (seq : Byte) : WellFormed.Statement (.editCloseKeep seq) :=
  wellFormed_of_sequencedRow _
theorem WellFormed.editCloseCommit (seq : Byte) : WellFormed.Statement (.editCloseCommit seq) :=
  wellFormed_of_sequencedRow _
theorem WellFormed.sequencedCommit (seq : Byte) (payload : List Byte) : WellFormed.Statement (.sequencedCommit seq payload) :=
  wellFormed_of_sequencedRow _
theorem WellFormed.broadcastCommit (payload : List Byte) : WellFormed.Statement (.broadcastCommit payload) :=
  wellFormed_of_sequencedRow _
theorem WellFormed.setRegion (seq : Byte) (payload : List Byte) : WellFormed.Statement (.setRegion seq payload) :=
  wellFormed_of_sequencedRow _
theorem WellFormed.setPalette (seq : Byte) (payload : List Byte) : WellFormed.Statement (.setPalette seq payload) :=
  wellFormed_of_sequencedRow _
theorem WellFormed.setCue (seq : Byte) (payload : List Byte) : WellFormed.Statement (.setCue seq payload) :=
  wellFormed_of_sequencedRow _
theorem WellFormed.readRegion (seq : Byte) (payload : List Byte) : WellFormed.Statement (.readRegion seq payload) :=
  wellFormed_of_sequencedRow _
theorem WellFormed.readPalette (seq : Byte) (payload : List Byte) : WellFormed.Statement (.readPalette seq payload) :=
  wellFormed_of_sequencedRow _
theorem WellFormed.readCue (seq : Byte) (payload : List Byte) : WellFormed.Statement (.readCue seq payload) :=
  wellFormed_of_sequencedRow _
theorem WellFormed.ovlWrite (seq : Byte) (payload : List Byte) : WellFormed.Statement (.ovlWrite seq payload) :=
  wellFormed_of_sequencedRow _
theorem WellFormed.ovlFill (seq : Byte) (payload : List Byte) : WellFormed.Statement (.ovlFill seq payload) :=
  wellFormed_of_sequencedRow _
theorem WellFormed.ovlCopy (seq : Byte) (payload : List Byte) : WellFormed.Statement (.ovlCopy seq payload) :=
  wellFormed_of_sequencedRow _
theorem WellFormed.ovlRead (seq : Byte) (payload : List Byte) : WellFormed.Statement (.ovlRead seq payload) :=
  wellFormed_of_sequencedRow _
theorem WellFormed.setFence (seq : Byte) (payload : List Byte) : WellFormed.Statement (.setFence seq payload) :=
  wellFormed_of_sequencedRow _
theorem WellFormed.readFence (seq : Byte) (payload : List Byte) : WellFormed.Statement (.readFence seq payload) :=
  wellFormed_of_sequencedRow _
theorem WellFormed.readMeasure (seq : Byte) (payload : List Byte) : WellFormed.Statement (.readMeasure seq payload) :=
  wellFormed_of_sequencedRow _
theorem WellFormed.setReport (seq : Byte) (payload : List Byte) : WellFormed.Statement (.setReport seq payload) :=
  wellFormed_of_sequencedRow _
theorem WellFormed.cancel (seq : Byte) (payload : List Byte) : WellFormed.Statement (.cancel seq payload) :=
  wellFormed_of_sequencedRow _
theorem WellFormed.nodeReset (broadcast : Bool) (seq : Byte) (payload : List Byte) : WellFormed.Statement (.nodeReset broadcast seq payload) :=
  wellFormed_of_sequencedRow _
theorem WellFormed.storeClearingDone : WellFormed.Statement .storeClearingDone :=
  wellFormed_of_sequencedRow _

end Sys2Proof.Laws
end

