-- ==== Sys2Proof/Laws/Store.lean ====
section
/-! SUPPORT. What becomes of an operation whose steps are clipped whole, and of one its requester has
ended. -/

namespace Sys2Proof.Machine

/-- Passing over clipped steps moves the next step and the clipped count forward, and nothing else. -/
theorem StoreOp.passClipped_moves (n : Nat) (op : StoreOp) :
    ∃ k c, op.passClipped n = { op with next := op.next + k, clipped := op.clipped + c } := by
  induction n generalizing op with
  | zero => exact ⟨0, 0, rfl⟩
  | succ n ih =>
    simp only [StoreOp.passClipped]
    split
    · obtain ⟨k, c, h⟩ := ih { op with next := op.next + 1, clipped := op.clipped + (op.params.targetRun op.next).2 }
      exact ⟨1 + k, (op.params.targetRun op.next).2 + c, by rw [h]; simp [Nat.add_assoc]⟩
    · exact ⟨0, 0, rfl⟩

/-- Passing over clipped steps never passes the last one. -/
theorem StoreOp.passClipped_next_le (n : Nat) (op : StoreOp) (h : op.next ≤ op.params.steps) :
    (op.passClipped n).next ≤ op.params.steps := by
  induction n generalizing op with
  | zero => exact h
  | succ n ih =>
    simp only [StoreOp.passClipped]
    split
    · rename_i hc
      exact ih _ hc.2.1
    · exact h

/-- An operation that goes on keeps all but its next step and its clipped count. -/
theorem StoreOp.settled_moves (op : StoreOp) :
    ∃ k c, op.settled = { op with next := op.next + k, clipped := op.clipped + c } :=
  op.passClipped_moves _

/-- An operation ended at its granted write burst keeps its counts, but for clipped steps behind its last
write burst. -/
theorem StoreOp.whenEnded_cases (op : StoreOp) :
    op.whenEnded = op ∨
    op.whenEnded = { op with next := op.next + 1 }.settled ∧
      op.params.steps ≤ op.whenEnded.next := by
  simp only [StoreOp.whenEnded]
  split
  · exact .inl rfl
  · rename_i h
    refine .inr ⟨rfl, ?_⟩
    obtain ⟨k, c, hk⟩ := StoreOp.settled_moves { op with next := op.next + 1 }
    rw [hk] at h ⊢
    dsimp only at h ⊢
    omega

/-- The octets written are those of the bursts completed. -/
@[simp] theorem StoreOp.whenEnded_written (op : StoreOp) : op.whenEnded.written = op.written := by
  rcases op.whenEnded_cases with h | ⟨h, -⟩
  · rw [h]
  · obtain ⟨k, c, hk⟩ := StoreOp.settled_moves { op with next := op.next + 1 }
    rw [h, hk]

/-- The operation stays the one it was. -/
@[simp] theorem StoreOp.whenEnded_params (op : StoreOp) : op.whenEnded.params = op.params := by
  rcases op.whenEnded_cases with h | ⟨h, -⟩
  · rw [h]
  · obtain ⟨k, c, hk⟩ := StoreOp.settled_moves { op with next := op.next + 1 }
    rw [h, hk]

end Sys2Proof.Machine
end

