-- ==== Sys2Proof/Tests/Slice0.lean ====
section
/-! SUPPORT. Tests: the well-formedness checks, worked examples of the spec, and for each statement with
hypotheses a witness that meets them. -/

namespace Sys2Proof.Tests

open Sys2Proof.Machine

set_option Elab.async false

/-! ### Helpers -/

/-- The next state of an answer. -/
def nextOf (o : Answer) : Option State :=
  match o with
  | .next t => some t
  | _ => none

theorem exists_next {o : Answer} (h : (nextOf o).isSome = true) : ∃ t, o = .next t := by
  cases o with
  | next t => exact ⟨t, rfl⟩
  | fault _ => cases h
  | refused _ => cases h

/-- A property of the next state. -/
def after (c : Instr) (s : State) (f : State → Bool) : Bool := (nextOf (exec c s)).any f

/-- The data and status last cached by the engine. -/
def lastAnswer (s : State) : Option (Status × List Byte) :=
  s.ce.cache.getLast?.map fun e => (e.status, e.data)

/-- The part with its store cleared, its first frame running and the address 3. -/
def ready : State :=
  { State.reset with
    os := { OverlayStore.initial with clearing := false }, out := firstFrame 0
    mlu := { ManagementUnit.initial with address := 3 } }

/-- `ready` with an edit OPEN. -/
def editing : State :=
  { ready with ct := { CompositionTable.initial with editOpen := true, timer := 8 } }

/-- A sequenced command with sequence 1. -/
def first (code : Byte) (p : List Byte) : Queued := ⟨true, 1, code, p⟩

/-- `ready` with a store command in execution, its operation and the store's users as given. -/
def storing (op : StoreOp) (waiting : Option BurstRequest) (busy : Option Grant) : State :=
  { ready with
    os := { ready.os with op := some op, ceWaiting := waiting, busy := busy }
    ce := { CommandEngine.initial with
      lastSeq := some 1, reservations := 1, exec := some ⟨first 0x30 [], .store⟩ } }

/-- Three octets written from address 100, the middle one under a CLIP fence. -/
def clipFence : Fence :=
  { mode := .clip, base := 101, pitch := 4096, fx0 := 0, fx1 := 0, fy0 := 0, fy1 := 0 }

/-- OVL_WRITE of three octets at 100. -/
def smallWrite : StoreParams := .write ⟨100, 16, 0, 0⟩ [1, 2, 3]

/-- `smallWrite` RUNNING, its one burst granted. -/
def writing : State :=
  let s := storing
    { StoreOp.checking smallWrite with running := true, fences := [clipFence] } none
    (some ⟨.ce, ⟨true, 100, 3⟩, false⟩)
  { s with os := { s.os with fences := [clipFence, .default, .default, .default] } }

/-- `writing` with the operation holding the fences in force. -/
def writingLawful : State :=
  { writing with os := { writing.os with
      op := some { StoreOp.checking smallWrite with running := true, fences := writing.os.fences } } }

/-- An operation in CHECKING. -/
def checking (p : StoreParams) : State := storing (.checking p) none none

/-- A geometry of 21 lines, ACTIVE from line 3, with MGMT line 1. -/
def smallGeometry : Geometry := ⟨21, 16, 3, 64, 1⟩

/-- An input line of a kind with some words. -/
def line (kind : LineKind) (n : Nat) : InputLine :=
  { kind := kind, frameStart := false, words := List.replicate n 5, overLong := false,
    unclean := false, forward := [] }

/-- LOCKED with a frame in input timing at output line 3. -/
def inLock : State :=
  { ready with
    rtu := { RasterTiming.initial with
      lock := .locked, locked := some smallGeometry, measured := some 16000,
      flywheel := some 18000000, cur := some (line .blank 2), prev := some (line .active 2) }
    out := { firstFrame 0 with
      inputTimed := true, geometry := smallGeometry, line := 3, activated := true } }

/-- HOLDOVER at the last line of an internal frame. -/
def inHoldover : State :=
  { ready with
    rtu := { RasterTiming.initial with
      lock := .holdover, locked := some smallGeometry, measured := some 16000,
      holdoverCount := 29 }
    out := { firstFrame 0 with geometry := smallGeometry, line := 20 } }

/-! ### Well-formedness -/

theorem test_illformed_payload_refused :
    (Instr.readInfo 0 (List.replicate 241 0)).wellFormed = false ∧
    (Instr.readInfo 0 (List.replicate 240 0)).wellFormed = true ∧
    (Instr.broadcastCommit (List.replicate 241 0)).wellFormed = false ∧
    (Instr.nodeReset true 0 (List.replicate 241 0)).wellFormed = false ∧
    (Instr.cancel 0 (List.replicate 241 0)).wellFormed = false ∧
    (Instr.unknownCode 0 0x05 (List.replicate 241 0)).wellFormed = false := by decide +kernel

theorem test_illformed_unknown_code_refused :
    (Instr.unknownCode 0 0x30 []).wellFormed = false ∧
    (Instr.unknownCode 0 0x71 []).wellFormed = false ∧
    (Instr.unknownCode 0 0x05 []).wellFormed = true := by decide

/-! ### Worked examples of the spec -/

/-- R142: the CRC of "123456789". -/
theorem test_crc_check_value :
    crc [0x31, 0x32, 0x33, 0x34, 0x35, 0x36, 0x37, 0x38, 0x39] = 0x29B1 := by decide +kernel

/-- R196: the wire forms of the slate default and of threshold (100, 900). -/
theorem test_packed_fields :
    toOctets 4 Colour.defaultSlate.packed = [0x04, 0x08, 0x02, 0x00] ∧
    ({ Region.default with threshold := some (100, 900) }.octets.drop 29).take 3
      = [0x11, 0x93, 0x84] := by decide +kernel

/-- Example 1-1, steps 3 to 5. -/
def panel (srcOp : Byte) (srcX : Nat) : List Byte :=
  [3, 1, 2] ++ toOctets 2 100 ++ toOctets 2 40 ++ toOctets 2 419 ++ toOctets 2 79
    ++ [srcOp, 7, 16, 0, 0, 0, 0] ++ toOctets 3 65536 ++ toOctets 2 512 ++ toOctets 2 srcX
    ++ toOctets 2 10 ++ [1, 0, 0, 0, 0, 0, 0]

theorem test_region_checks_22_25 :
    after (.setRegion 1 (panel 0x00 200)) editing
      (fun t => decide (lastAnswer t = some (.badField, [11]))) = true ∧
    after (.setRegion 1 (panel 0x20 200)) editing
      (fun t => decide (lastAnswer t = some (.badField, [23]))) = true := by decide +kernel

theorem test_region_stored :
    after (.setRegion 1 (panel 0x20 192)) editing (fun t =>
      decide (lastAnswer t = some (.ok, []) ∧ (t.ct.pendingSet.region 3).srcX = 192 ∧
        (t.ct.pendingSet.region 3).source = .overlay ∧ (t.ct.pendingSet.region 3).key = some 0 ∧
        t.ct.activeSet = .default)) = true := by decide +kernel

/-- Example 1-2, steps 1 and 2. -/
theorem test_palette_refusals :
    after (.setPalette 1 ([250, 8] ++ List.replicate 40 0)) editing
      (fun t => decide (lastAnswer t = some (.badField, [0]))) = true ∧
    after (.setPalette 1 ([248, 8] ++ (List.replicate 40 0).set 29 17)) editing
      (fun t => decide (lastAnswer t = some (.badField, [31]))) = true := by decide +kernel

/-- A bank of the defaults but for some region records. -/
def bankOf (records : List (Nat × Region)) : CompositionSet :=
  { CompositionSet.default with
    regions := records.foldl (fun l r => l.set r.1 r.2) CompositionSet.default.regions }

/-- An enabled region over a rectangle. -/
def regionOn (layer x0 y0 x1 y1 : Nat) : Region :=
  { Region.default with enable := true, layer := layer, x0 := x0, y0 := y0, x1 := x1, y1 := y1 }

/-- Example 4-1. -/
def threeRegions (key : Option Byte) : CompositionSet :=
  bankOf
    [(0, { regionOn 3 0 0 1279 199 with source := .input, op := .dim, mask := 6, opacity := 12 }),
     (2, { regionOn 1 600 80 699 119 with op := .blend, opacity := 4, fill := ⟨200, 512, 100⟩ }),
     (7, { regionOn 1 620 100 719 139 with
           source := .overlay, op := .max, mask := 1, fill := ⟨1023, 0, 0⟩, pitch := 4096
           key := key })]

def pixelState (key : Option Byte) (status : SpanStatus) (mask : BitVec 16) : State :=
  { ready with
    ct := { CompositionTable.initial with activeSet := threeRegions key }
    comp := { Compositor.initial with cueMask := mask }
    sf := { SpanFetcher.initial with showing :=
      { owner := some 100, status := (List.replicate 16 SpanStatus.none).set 7 status
        octets := [(20, 200)] } } }

theorem test_example_4_1 :
    composePixel (pixelState none (.present 0 100) 0) 640 100 ⟨600, 300, 700⟩ = ⟨800, 264, 412⟩ ∧
    composePixel (pixelState (some 200) (.present 0 100) 0) 640 100 ⟨600, 300, 700⟩
      = ⟨500, 264, 412⟩ ∧
    composePixel (pixelState none .late 0) 640 100 ⟨600, 300, 700⟩ = ⟨1023, 264, 412⟩ ∧
    composePixel (pixelState none (.present 0 100) 1) 640 100 ⟨600, 300, 700⟩
      = ⟨800, 353, 550⟩ ∧
    composePixel (pixelState none (.present 0 100) 0) 640 100 .defaultSlate = ⟨800, 384, 306⟩ := by
  decide +kernel

/-- Example 4-2: the cue masks of lines 100, 300 and 500. -/
def exampleCues : CompositionSet :=
  { CompositionSet.default with cues :=
      [⟨true, 100, .hideRegions, 0x18⟩, ⟨true, 100, .showRegions, 0x10⟩, ⟨true, 300, .notifyCue, 0⟩,
       ⟨false, 300, .hideRegions, 0x20⟩, .default, ⟨true, 500, .showRegions, 0x08⟩,
       ⟨true, 900, .hideRegions, 0x08⟩, .default] }

theorem test_example_4_2 :
    cueMaskAt exampleCues 100 0 = 0x08 ∧ cueMaskAt exampleCues 300 0x08 = 0x08 ∧
    cueNotices exampleCues 300 = [.cue 2] ∧ cueMaskAt exampleCues 500 0x08 = 0 := by decide +kernel

/-- Example 5-1: the fill list and the placing of active line 120. -/
def exampleBank : CompositionSet :=
  let overlay := fun (r : Region) base pitch srcX srcY =>
    { r with source := .overlay, base := base, pitch := pitch, srcX := srcX, srcY := srcY }
  bankOf
    [(2, overlay (regionOn 4 100 50 3099 149) 420000 3200 0 0),
     (5, overlay (regionOn 1 3600 100 4095 180) 1000000 512 16 4),
     (6, overlay (regionOn 7 0 0 511 99) 0 512 0 0),
     (9, overlay (regionOn 7 0 100 4095 199) 0 4096 0 0),
     (11, overlay (regionOn 4 0 100 2499 199) 750000 2500 0 0)]

theorem test_example_5_1 :
    fillList exampleBank 4096 120 = [9, 2, 11, 5] ∧
    (placeSpans exampleBank 4096 120 [9, 2, 11, 5] 8192 (List.replicate 16 .none)).2 =
      [⟨9, 0, 4096, 81920, 0⟩, ⟨2, 4096, 3000, 644000, 0⟩, ⟨5, 7096, 496, 1012304, 0⟩] ∧
    (placeSpans exampleBank 4096 120 [9, 2, 11, 5] 8192 (List.replicate 16 .none)).1.getD 11 .none
      = .budget := by decide +kernel

/-- Example 6-1: the steps of the copy, its clipped octets, and the refusal under unequal pitches. -/
def exampleCopy : StoreParams := .copy ⟨200000, 512, 10, 20⟩ ⟨200000, 512, 40, 21⟩ 100 3

def exampleFences : List Fence :=
  [.default, .default, ⟨.clip, 200000, 512, 120, 139, 22, 23⟩, .default]

theorem test_example_6_1 :
    exampleCopy.refusal exampleFences = none ∧ exampleCopy.steps = 6 ∧
    (List.range 6).map exampleCopy.originRun =
      [(211310, 64), (211274, 36), (210798, 64), (210762, 36), (210286, 64), (210250, 36)] ∧
    (List.range 6).map exampleCopy.targetRun =
      [(211852, 64), (211816, 36), (211340, 64), (211304, 36), (210828, 64), (210792, 36)] ∧
    ((List.range 6).map fun n =>
      clippedIn exampleFences (exampleCopy.targetRun n).1 (exampleCopy.targetRun n).2) =
      [20, 0, 20, 0, 0, 0] ∧
    (StoreParams.copy ⟨200000, 512, 10, 20⟩ ⟨200000, 520, 40, 21⟩ 100 3).refusal exampleFences =
      some (.overlap, []) := by decide +kernel

/-- Example 6-2, steps 2 and 3. -/
theorem test_example_6_2 :
    (StoreParams.write ⟨0, 256, 250, 15⟩ (List.replicate 10 9)).refusal
      [⟨.reject, 0, 256, 0, 255, 0, 15⟩] = some (.fenced, [0]) ∧
    (StoreParams.write ⟨0, 256, 0, 16⟩ (List.replicate 10 9)).refusal
      [⟨.reject, 0, 256, 0, 255, 0, 15⟩] = none := by decide +kernel

/-- Example 7-1: the latch of frame 706. -/
def exampleMonitor : State :=
  let record := { Region.default with
    x1 := 99, y1 := 9, measure := true, threshold := some (100, 900), freezeLimit := 3 }
  let monitor : Monitor :=
    { count := 1000, sum := 61000, min := 20, max := 140
      record := some ⟨705, 1000, 498210, 390, 622, some 498⟩
      level := .inRange, stillness := 4, frozen := true, interval := 2, countdown := 2 }
  { ready with
    ct := { CompositionTable.initial with activeSet := bankOf [(4, record)] }
    out := { firstFrame 0 with counter := 706 }
    mon := { RegionMonitor.initial with
      monitors := RegionMonitor.initial.monitors.set 4 monitor } }

theorem test_example_7_1 :
    (let t := runActs (latchActs exampleMonitor 4) exampleMonitor
     decide (t.nq.entries.map Notification.notice = [.level 4 .inRange .low 61, .moving 4 0] ∧
       (t.mon.monitor 4).countdown = 1)) = true := by decide +kernel

/-- Example 8-1: insertion by turns, until the response chosen does not fit. -/
def exampleQueues : State :=
  let response := fun seq n => (⟨seq, 0x33, .ok, false, List.replicate n 0, false, 0⟩ : Response)
  { ready with
    mlu := { ManagementUnit.initial with address := 3, sequence := 17 }
    ce := { CommandEngine.initial with responses := [response 1 64, response 2 0, response 3 28] }
    nq := { NotificationQueue.initial with entries :=
      [⟨.level 1 .unknown .low 5, 9, 0⟩, ⟨.underrun 2 7 true, 9, 0⟩, ⟨.editExpired, 9, 0⟩] } }

theorem test_example_8_1 :
    (let r := assembleLine 64 [List.replicate 58 1] exampleQueues
     decide (r.1.ce.responses.map Response.seq = [3] ∧
       r.1.nq.entries.map Notification.notice = [.editExpired] ∧ r.1.mlu.sequence = 19 ∧
       r.2.length = 192 ∧ r.2.drop 179 = List.replicate 13 0)) = true := by decide +kernel

/-- Example 9-1: intake with last accepted sequence 42 in execution. -/
def exampleEngine : State :=
  { ready with ce := { CommandEngine.initial with
      lastSeq := some 42, reservations := 1, exec := some ⟨⟨true, 42, 0x31, []⟩, .store⟩
      cache := [⟨41, 0x23, .ok, []⟩] } }

theorem test_example_9_1 :
    ((intakeSequenced ⟨true, 41, 0x23, []⟩ exampleEngine).ce.responses.map fun r =>
      (r.seq, r.replay)) = [(41, true)] ∧
    (intakeSequenced ⟨true, 42, 0x31, []⟩ exampleEngine).ce.duplicates = 1 ∧
    ((intakeSequenced ⟨true, 30, 0x31, []⟩ exampleEngine).ce.responses.map fun r =>
      (r.status, r.data)) = [(.stale, [42])] ∧
    ((intakeSequenced ⟨true, 61, 0x31, []⟩ exampleEngine).ce.responses.map fun r =>
      (r.status, r.data)) = [(.stale, [42])] ∧
    (intakeSequenced ⟨true, 43, 0x35, [0]⟩ exampleEngine).ce.queue.length = 1 := by decide +kernel

/-- Example 10-1: the emission carries the lost count and clears it. -/
theorem test_example_10_1 :
    (let s := { ready with
        mlu := { ManagementUnit.initial with address := 7, sequence := 90 }
        nq := { NotificationQueue.initial with entries := [⟨.cue 1, 1200, 0⟩], lost := 2 } }
     let p := notificationPacket ⟨.cue 1, 1200, 0⟩ s
     decide (octetAt p 4 = 90 ∧ octetAt p 9 = 2 ∧ (emitNotification s).nq.lost = 0 ∧
       (emitNotification s).mlu.sequence = 91)) = true := by decide +kernel

/-- Example 10-1: the frame end of frame 1200, with 14 entries queued. -/
def exampleOverflow : State :=
  let measured := { Region.default with measure := true }
  let monitor := fun level =>
    { Monitor.initial with
      count := 10, sum := 5000, min := 500, max := 500, interval := 1, countdown := 1, level := level }
  { ready with
    ct := { CompositionTable.initial with activeSet := bankOf [(1, measured),
      (2, { measured with threshold := some (100, 400) }), (3, measured), (6, measured)] }
    out := { firstFrame 0 with counter := 1200 }
    mon := { measuring := true, complete := true
             monitors := [1, 2, 3, 6].foldl (fun l i => l.set i (monitor .inRange))
               RegionMonitor.initial.monitors }
    nq := { NotificationQueue.initial with entries := List.replicate 14 ⟨.cue 1, 1199, 0⟩, lostTotal := 40 } }

/-- The frame end of `exampleOverflow` with one emission behind its first `n` acts. -/
def overflowOrder (n : Nat) : State × Assembly :=
  let acts := (frameEndActs exampleOverflow).map fun act => Prod.map act id
  runActs (beginAssembly :: acts.take n ++ insertNext :: acts.drop n) (exampleOverflow, .start 100)

/-- Example 10-1, last paragraph: the emission before or after offer 2, which is the act behind the first
four. Either way two offers are dropped and the packet carries lost count 0. -/
theorem test_example_10_1_orders :
    ([4, 5].map fun n =>
      let (s, a) := overflowOrder n
      ((s.nq.entries.drop 13).map fun e => e.notice.position, s.nq.lost, s.nq.lostTotal, octetAt a.inserted 9))
      = [([8, 5, 8], 2, 42, 0), ([8, 5, 8], 2, 42, 0)] := by decide +kernel

/-- R184: LOCK between two COMMIT_SKIPPED, offered when a waiting EDIT_OPEN opens its edit ahead of two
broadcast COMMITs. -/
theorem test_lock_between_skipped :
    (let commit : Queued := ⟨false, 0, 0x22, []⟩
     let s := { ready with
       ct := { CompositionTable.initial with request := some .reset }
       ce := { CommandEngine.initial with
         reservations := 1, exec := some ⟨⟨true, 1, 0x20, [8]⟩, .resetCommit⟩, queue := [commit, commit] } }
     let acts := activationActs s
     let t := runActs (acts.take 2 ++ offerLock .locked .holdover .flywheel :: acts.drop 2) s
     decide (t.nq.entries.map Notification.notice =
       [.commitSkipped, .lock .locked .holdover .flywheel, .commitSkipped])) = true := by decide +kernel

/-- Example 11-1: the SET_CUE packet stores its cue; action 3 is refused at payload offset 2. -/
theorem test_example_11_1 :
    (let node := { editing with mlu := { ManagementUnit.initial with
        address := 3, parse := some ⟨0, false, []⟩ } }
     let feed := fun action => (packetOf 3 0 0x01 0x2A 0x25 [2, 1, action, 0x01, 0x2C, 0, 0x18]).foldl
       feedOctet node
     decide ((feed 1).ct.pendingSet.cue 2 = ⟨true, 300, .hideRegions, 0x18⟩ ∧
       lastAnswer (feed 1) = some (.ok, []) ∧ lastAnswer (feed 3) = some (.badField, [2]))) = true := by
  decide +kernel

/-- Example 3-1: input frame start F3 enters LOCKED; the flywheel runs to F3 + 18,768 µs. -/
theorem test_example_3_1 :
    (let g : Geometry := ⟨750, 720, 25, 1280, 2⟩
     let s := { ready with
       now := 33000000
       rtu := { RasterTiming.initial with
         lock := .acquiring, candidate := some g, acquire := some 116683000
         frame := some ⟨16683000, 749, 720, 25, 1280, 2, true, true, true⟩
         cur := some (line .blank 0) } }
     after (.inputLineStart 0x12 33366000) s fun t =>
       decide (t.rtu.lock = .locked ∧ t.rtu.locked = some g ∧ t.rtu.measured = some 16683 ∧
         t.rtu.flywheel = some (33366000 + 18768000) ∧ t.rtu.acquire = none ∧
         t.nq.entries.map Notification.notice = [.lock .acquiring .locked .matched])) = true := by
  decide +kernel

/-- Example 3-2: the internal frame start of frame 531. -/
theorem test_example_3_2 :
    after .internalLineStart { inHoldover with out := { inHoldover.out with counter := 530 } }
      (fun t => decide (t.rtu.lock = .freeRun ∧ t.out.counter = 531 ∧ t.rtu.holdoverCount = 30 ∧
        t.nq.entries.map (fun e => (e.notice, e.frame)) =
          [(.lock .holdover .freeRun .holdoverLimit, 531)])) = true := by decide +kernel

/-- The write burst of `writing`: the octet at 101 is masked, and the command is answered with 2 and 1. -/
theorem test_write_burst_clips :
    after .ceBurstComplete writing (fun t =>
      decide ((List.range 4).map (fun k => Memory.read t.os.cells (100 + k)) = [1, 0, 3, 0] ∧
        lastAnswer t = some (.ok, [0, 0, 2, 0, 0, 1]) ∧ t.os.op = none)) = true := by decide +kernel

/-- A CANCEL during a granted burst waits for it (R117, R176). -/
theorem test_cancel_waits_for_burst :
    after (.cancel 9 []) writing (fun t =>
      decide (t.ce.slot = .reserved ∧ t.ce.responses = []) &&
        after .ceBurstComplete t fun u => decide (u.ce.responses.map (fun r => (r.seq, r.status, r.data))
          = [(1, .cancelled, [0, 0, 2, 0, 0, 1]), (9, .ok, [1])])) = true := by decide +kernel

/-- A FILL of 128 octets from 0 with columns 64..127 under a CLIP fence, its first burst granted: cancelled
then, its counts cover the footprint (R104, R117, R177). -/
def halfClipped : State :=
  storing
    { StoreOp.checking (.fill ⟨0, 128, 0, 0⟩ 128 1 9) with
      running := true, fences := [⟨.clip, 0, 128, 64, 127, 0, 0⟩] } none
    (some ⟨.ce, ⟨true, 0, 64⟩, false⟩)

theorem test_cancel_counts_whole_footprint :
    after (.cancel 9 []) halfClipped (fun t => after .ceBurstComplete t fun u =>
      decide (u.ce.responses.map (fun r => (r.status, r.data))
        = [(.cancelled, [0, 0, 64, 0, 0, 64]), (.ok, [1])])) = true := by decide +kernel

/-- R173, R198: a queued OVL_FILL removed by CANCEL carries two counts of 0, a queued READ_INFO nothing. -/
theorem test_cancel_answers_removed :
    after (.cancel 9 [])
      { writing with
        os := { writing.os with op := none, busy := none }
        ce := { writing.ce with
          exec := some ⟨first 0x22 [], .commit⟩, reservations := 3
          queue := [⟨true, 2, 0x31, []⟩, ⟨true, 3, 0x01, []⟩] } }
      (fun t => decide (t.ce.responses.map (fun r => (r.seq, r.data)) =
        [(1, []), (2, [0, 0, 0, 0, 0, 0]), (3, []), (9, [3])])) = true := by decide +kernel

/-- R195: an ACTIVE start word with the frame-start flag, and a pixel word, at the input port. -/
theorem test_input_words :
    inputWordCommand 0x80000011 7 = .inputLineStart 0x11 7 ∧
    inputWordCommand 0x3FF00001 7 = .inputPixelWord 0x3FF00001 := by decide

/-- R60: a SET_TIMING in LOCKED before the switch leaves the next frame's layout. -/
theorem test_locked_layout_keeps :
    (let s := { inLock with out := { inLock.out with inputTimed := false } }
     decide (internalLayout { s with rtu := { s.rtu with params :=
       { FreeRun.default with period := 9000 } } } = internalLayout s)) = true := by
  simp [internalLayout, inLock, holdoverLayout]

/-! ### Witnesses: the machine and its laws -/

theorem witness_StepRunsFrontOrIdles : State.reset.pending = [] := rfl

theorem witness_CommandsAnswerAndLeaveQueue :
    (∃ t, exec (.readInfo 1 []) ready = .next t) ∧
    exec .ceBurstComplete (storing (.checking smallWrite) none
      (some ⟨.ce, ⟨true, 1048575, 2⟩, false⟩)) = .fault (.storeAddress 1048577) :=
  ⟨exists_next (by decide +kernel), by rfl⟩

/-- One command for each clause of the frame. -/
theorem witness_CommandsTouchOnlyTheirBlocks :
    (∀ c ∈ [Instr.readInfo 1 [], .broadcastCommit [], .cancel 1 [], .nodeReset true 1 [],
        .nodeReset false 1 [], .ceBurstComplete, .storeChecksComplete, .commandBegin,
        .sfBurstComplete, .acquireTimerExpiry, .editExpiry, .reportCountdown 15,
        .inputPixelWord 7, .inputLineStart 0x11 5, .internalLineStart, .flywheelExpiry,
        .holdoverLimit], (nextOf (exec c editing)).isSome = true) ∧
    sequencedRow 1 0x01 [] = some (.readInfo 1 []) := by decide +kernel

/-- `RecordsLegal` of a state whose banks and fences are the defaults. -/
theorem default_bank_legal : CompositionSet.default.Legal := by
  refine ⟨?_, ?_, ?_, ?_, ?_, ?_⟩ <;> decide +kernel

theorem witness_laws_store_capacity_record :
    StoreLaw writingLawful ∧ CapacityLaw writingLawful ∧ RecordLaw writingLawful ∧
    (nextOf (step { writingLawful with pending := [.ceBurstComplete] })).isSome = true :=
  ⟨by decide +kernel, by decide +kernel, by decide +kernel, by decide +kernel⟩

theorem witness_laws_edit_counter_fence :
    EditLaw writingLawful ∧ CounterLaw writingLawful ∧ FenceLaw writingLawful ∧
    (nextOf (step { writingLawful with pending := [.nodeReset true 0 []] })).isSome = true :=
  ⟨by decide +kernel, by decide +kernel, by decide +kernel, by decide +kernel⟩

theorem witness_StepKeepsEditLaw_open :
    RecordLaw editing ∧ EditLaw editing ∧
    (nextOf (step { editing with pending := [.editCloseCommit 1] })).isSome = true :=
  ⟨by decide +kernel, by decide +kernel, by decide +kernel⟩

theorem witness_StepKeepsTimingLaw :
    TimingLaw inLock ∧ TimingLaw inHoldover ∧
    (nextOf (step { inLock with pending := [.flywheelExpiry] })).isSome = true ∧
    (nextOf (step { inHoldover with pending := [.internalLineStart] })).isSome = true :=
  ⟨by decide +kernel, by decide +kernel, by decide +kernel, by decide +kernel⟩

theorem witness_StepKeepsRecordsLegal :
    RecordsLegal editing ∧
    (nextOf (step { editing with pending := [.setRegion 1 (panel 0x20 192)] })).isSome = true :=
  ⟨⟨default_bank_legal, default_bank_legal, by decide +kernel, by decide +kernel⟩,
    by decide +kernel⟩

/-- A write runs and one of its octets, at 101, is protected. -/
theorem witness_FencedOctetsStay :
    RecordLaw writingLawful ∧ FenceLaw writingLawful ∧
    (nextOf (exec .ceBurstComplete writingLawful)).isSome = true ∧
    (∀ op ∈ writingLawful.os.op, op.running = true → protectedBy op.fences 101 = true) :=
  ⟨by decide +kernel, by decide +kernel, by decide +kernel, by decide +kernel⟩

theorem witness_ActiveSetChangesOnlyByCommit :
    ∃ t, exec .internalLineStart ready = .next t := exists_next (by decide +kernel)

/-! ### Witnesses: resets -/

/-- RESET held low after a pin reset. -/
def held : State := { State.reset with resetLow := true }

theorem witness_ResetsStartFirstFrame :
    held.resetLow = true ∧ held.rtu = .initial ∧ held.out = .initial ∧ held.comp = .initial ∧
    held.sf = .initial ∧ held.mon = .initial ∧ held.os.sfWaiting = none ∧ held.os.busy = none :=
  ⟨rfl, rfl, rfl, rfl, rfl, rfl, rfl, rfl⟩

theorem witness_PinResetLeavesDefaults : Memory.Wf writing.os.cells := by decide

theorem witness_ClearingDoneOpensIntake :
    State.reset.os.clearing = true ∧ sequencedRow 0 0x22 [] = some (.sequencedCommit 0 []) ∧
    { ready with mlu := .initial }.mlu.address = 0 := ⟨rfl, rfl, rfl⟩

/-! ### Witnesses: raster input and lock states -/

/-- An input frame of 20 lines, the last one arriving, that ends as `smallGeometry` if `total` is 21. -/
def ending (total : Nat) : RasterTiming :=
  { RasterTiming.initial with
    frame := some ⟨0, total - 1, 16, 3, 64, 1, true, true, true⟩
    cur := some (line .blank 2), prev := some (line .blank 2) }

/-- The states of an input frame start that ends a frame of `total` lines, by lock state. -/
def endingIn (lock : LockState) (total : Nat) : State :=
  let kept := { ending total with lock := lock, locked := some smallGeometry, measured := some 16000 }
  { ready with
    rtu := match lock with
      | .freeRun => RasterTiming.initial
      | .acquiring =>
        { ending total with lock := lock, acquire := some 5, candidate := some smallGeometry }
      | .locked => { kept with flywheel := some 5 }
      | .holdover => { kept with watching := true }
    out := match lock with
      | .locked => { firstFrame 0 with inputTimed := true, geometry := smallGeometry }
      | _ => firstFrame 0 }

/-- A frame that matches and one a line longer, in each state that compares it. -/
theorem witness_FrameStartLeavesFreeRun :
    ready.resetLow = false ∧ ready.rtu.lock = .freeRun ∧ (0x13 : BitVec 31).getLsbD 4 = true ∧
    ([LockState.acquiring, .locked, .holdover].all fun lock => [21, 22].all fun total =>
      decide (TimingLaw (endingIn lock total)) &&
      decide ((endingIn lock total).resetLow = false ∧ (endingIn lock total).rtu.lock = lock) &&
      (endingIn lock total).endedFrame.any fun f =>
        decide (f.Matches (some smallGeometry)) == decide (total = 21)) = true ∧
    (endingIn .acquiring 21).rtu.candidate = some smallGeometry ∧
    (endingIn .locked 21).rtu.locked = some smallGeometry ∧
    (endingIn .locked 21).ce.queue = [] ∧ (endingIn .locked 21).rtu.lockLosses ≤ 65535 ∧
    (endingIn .locked 21).mlu.notForwarded ≤ 65535 ∧
    (endingIn .holdover 21).rtu.watching = true ∧ inHoldover.rtu.watching = false ∧
    [line .blank 2, line .active 64].length ≤ 4400 := by
  decide +kernel

/-- `inLock` before its switch to input timing, `n` input lines of the frame ended. -/
def beforeSwitch (n : Nat) : State :=
  { inLock with
    rtu := { inLock.rtu with awaitSwitch := true, frame := some { InputFrame.start 0 with lines := n } }
    out := firstFrame 0 }

/-- The line two back may be BLANK or MGMT too, and may begin a frame; before the switch, the start of
line 2 and that of line 1. -/
theorem witness_OutputLineIsTwoLinesBack :
    inLock.resetLow = false ∧ inLock.rtu.lock = .locked ∧ inLock.out.inputTimed = true ∧
    (0x02 : BitVec 31).getLsbD 4 = false ∧ inLock.rtu.prev = some (line .active 2) ∧
    (line .active 2).kind ≠ .mgmt ∧ (line .blank 2).kind = .blank ∧
    (line .mgmt 0).forward.flatten.length ≤ 3 * (line .mgmt 0).words.length ∧
    (beforeSwitch 1).rtu.lock = .locked ∧ (beforeSwitch 1).out.inputTimed = false ∧
    (beforeSwitch 1).rtu.cur = some (line .blank 2) ∧ (beforeSwitch 1).rtu.awaitSwitch = true ∧
    (beforeSwitch 1).rtu.locked = some smallGeometry ∧ (beforeSwitch 1).rtu.measured = some 16000 ∧
    (∀ n ∈ [0, 1], ∃ f ∈ (beforeSwitch n).rtu.frame, f.lines = n) := by decide

/-- An idle queue, no line, a line with room for one more word, MGMT or not, a full line. -/
theorem witness_PixelWordIsKept :
    ready.pending = [] ∧ ready.resetLow = false ∧
    ready.rtu.cur = none ∧ inLock.rtu.cur = some (line .blank 2) ∧ (line .blank 2).kind ≠ .mgmt ∧
    (line .blank 4095).words.length < 4096 ∧ (line .mgmt 4095).words.length < 4096 ∧
    (line .mgmt 4095).kind = .mgmt ∧ Colour.Legal ⟨0, 1023, 512⟩ ∧
    4096 ≤ (line .blank 4096).words.length := by
  decide +kernel

/-- ACQUIRING, its timer running. -/
def acquiring : State :=
  { ready with rtu := { RasterTiming.initial with lock := .acquiring, acquire := some 100000000 } }

theorem witness_AcquireExpiryReturnsToFreeRun :
    acquiring.resetLow = false ∧ acquiring.rtu.lock = .acquiring ∧
    acquiring.rtu.acquire = some 100000000 := ⟨rfl, rfl, rfl⟩

/-- Both limits: 30, and 0. -/
theorem witness_FlywheelExpiryLeavesLocked :
    inLock.resetLow = false ∧ inLock.rtu.lock = .locked ∧ inLock.rtu.flywheel = some 18000000 ∧
    inLock.rtu.locked = some smallGeometry ∧ inLock.rtu.measured = some 16000 ∧
    inLock.ce.queue = [] ∧ inLock.rtu.lockLosses ≤ 65535 ∧ inLock.rtu.params.holdoverLimit = 30 ∧
    (let r := { inLock.rtu with params := { FreeRun.default with holdoverLimit := 0 } }
     decide (r.lock = .locked ∧ r.params.Legal ∧ r.params.holdoverLimit = 0)) = true := by
  decide +kernel

theorem witness_HoldoverLimitEndsHoldover :
    inHoldover.resetLow = false ∧ inHoldover.rtu.lock = .holdover ∧
    inHoldover.out.inputTimed = false ∧
    (inHoldover.out.running = false ∨
      inHoldover.out.geometry.total ≤ inHoldover.out.line + 1) ∧
    inHoldover.rtu.params.holdoverLimit ≤ inHoldover.rtu.holdoverCount + 1 ∧
    inHoldover.rtu.holdoverCount ≤ 254 ∧ inHoldover.ce.queue = [] := by decide

/-- An internal frame at a line. -/
def atLine (n : Nat) : State := { ready with out := { firstFrame 0 with line := n } }

/-- The first BLANK line after the MGMT lines, the first and last ACTIVE line, and the line before the
first ACTIVE line. -/
theorem witness_InternalLinesStart :
    (∀ n ∈ [2, 22], (atLine n).out.line + 1 < (atLine n).out.geometry.total ∧
      (atLine n).out.geometry.mgmt < (atLine n).out.line + 1 ∧
      (atLine n).out.line + 1 < (atLine n).out.geometry.firstActive ∧
      (atLine n).out.line + 2 ≠ (atLine n).out.geometry.firstActive) ∧
    ([24, 743].all fun n => decide (TimingLaw (atLine n))) = true ∧
    (∀ n ∈ [24, 743], (atLine n).out.line + 1 < (atLine n).out.geometry.total ∧
      (atLine n).out.geometry.firstActive ≤ (atLine n).out.line + 1 ∧
      (atLine n).out.line + 1 < (atLine n).out.geometry.firstActive + (atLine n).out.geometry.active) ∧
    (atLine 23).out.line + 2 = (atLine 23).out.geometry.firstActive ∧
    (atLine 23).out.geometry.mgmt < (atLine 23).out.line + 1 ∧
    (atLine 23).out.line + 1 < (atLine 23).out.geometry.total ∧
    (atLine 23).out.activeCount = 0 ∧ (atLine 23).out.activated = false ∧
    (atLine 23).out.running = true ∧ (atLine 23).out.inputTimed = false ∧
    (atLine 23).resetLow = false := by decide

/-! ### Witnesses: edits and commits -/

theorem ready_accepts : Ready 1 ready := by decide +kernel
theorem editing_accepts : Ready 1 editing := by decide +kernel

/-- `ready` with a commit requested. -/
def requested (o : Origin) : State :=
  { ready with ct := { CompositionTable.initial with request := some o } }

/-- Each of the four cases, the timeout at its bounds. -/
theorem witness_EditOpenOutcomes :
    Ready 1 editing ∧ editing.ct.editOpen = true ∧ Ready 1 ready ∧ ready.ct.editOpen = false ∧
    ready.ct.request = none ∧ (0 : Byte).toNat < 1 ∧ 64 < (65 : Byte).toNat ∧
    1 ≤ (1 : Byte).toNat ∧ (64 : Byte).toNat ≤ 64 ∧ Ready 1 (requested .reset) ∧
    (requested .reset).ct.request = some .reset ∧ (requested .reset).ct.editOpen = false := by
  decide +kernel

theorem witness_EditCloseOutcomes :
    Ready 1 editing ∧ editing.ct.editOpen = true ∧ editing.ct.request = none := by decide +kernel

theorem witness_CommitOutcomes :
    Ready 1 editing ∧ editing.ct.editOpen = true ∧ Ready 1 ready ∧ ready.ct.editOpen = false ∧
    (requested .reset).ct.request.getD .command = .reset := by decide +kernel

/-- `requested` with the command that waits for the commit. -/
def committing (o : Origin) (p : Progress) : State :=
  { requested o with ce := { CommandEngine.initial with
      lastSeq := some 1, reservations := 1, exec := some ⟨first 0x22 [], p⟩ } }

theorem witness_CommitIsAppliedAtActivation :
    (committing .command .commit).ct.editOpen = false ∧
    (committing .command .commit).ct.request = some .command ∧
    (committing .command .commit).ce.queue = [] ∧ (first 0x22 []).sequenced = true ∧
    (committing .command .commit).ce.exec = some ⟨first 0x22 [], .commit⟩ ∧
    (committing .reset .resetCommit).ct.request = some .reset ∧
    (committing .reset .resetCommit).ce.exec = some ⟨first 0x22 [], .resetCommit⟩ := by decide

/-- A timer at its last count, and a report countdown at its last count. -/
theorem witness_ExpiriesActAtLastCount :
    (let s := { editing with ct := { editing.ct with timer := 1 } }
     decide (s.resetLow = false ∧ s.ct.editOpen = true ∧ s.ct.timer = 1)) = true ∧
    (let m : Measurement := ⟨9, 0, 0, 0, 0, none⟩
     let r : Monitor := { Monitor.initial with record := some m, interval := 1, countdown := 1 }
     let s := { ready with mon := { RegionMonitor.initial with
       monitors := RegionMonitor.initial.monitors.set 15 r } }
     decide (s.resetLow = false ∧ s.mon.monitor 15 = r ∧ r.record = some m ∧ r.countdown = 1 ∧
       1 ≤ r.interval)) = true := by decide

/-- The shortest and the longest palette run. -/
theorem witness_ClosedEditRefuses :
    Ready 1 ready ∧ ready.ct.editOpen = false ∧ (List.replicate 34 (0 : Byte)).length = 34 ∧
    (List.replicate 7 (0 : Byte)).length = 2 + 5 * 1 ∧
    (List.replicate 162 (0 : Byte)).length = 2 + 5 * 32 ∧
    (List.replicate 7 (0 : Byte)).length = 7 := by decide +kernel

/-! ### Witnesses: the composition set -/

/-- The legal record of Example 1-1, and the last index. -/
theorem witness_SetRegionStoresWholeRecord :
    Ready 1 editing ∧ editing.ct.editOpen = true ∧ (regionAt (panel 0x20 192) 1).Legal ∧
    Region.default.Legal ∧ 15 < 16 ∧ (panel 0x20 192).length = 34 :=
  ⟨by decide +kernel, rfl, by decide +kernel, by decide +kernel, by decide, by decide +kernel⟩

/-- A run of one entry, and one of 32 that ends at 255. -/
theorem witness_SetPaletteStoresRun :
    Ready 1 editing ∧ editing.ct.editOpen = true ∧ editing.ct.pendingSet.palette.length = 256 ∧
    (PaletteEntry.default 255).Legal ∧ [PaletteEntry.default 255].length = 1 ∧
    (List.replicate 32 (PaletteEntry.default 255)).length = 32 ∧ 224 + 32 ≤ 256 := by decide +kernel

theorem witness_SetCueAndFenceStoreRecord :
    Ready 1 editing ∧ editing.ct.editOpen = true ∧ (⟨true, 4095, .hideRegions, 1⟩ : Cue).Legal ∧
    (⟨.clip, 1048575, 4096, 0, 4095, 0, 4095⟩ : Fence).Legal ∧ clipFence.Legal := by decide +kernel

theorem witness_BankReadsAnswerRecords :
    Ready 1 ready ∧ ready.ct.activeSet.Legal ∧ ready.ct.pendingSet.Legal ∧
    ready.ct.activeSet.regions[15]? = some .default ∧ ready.ct.activeSet.cues[7]? = some .default :=
  ⟨ready_accepts, default_bank_legal, default_bank_legal, by decide +kernel, by decide +kernel⟩

/-! ### Witnesses: the engine -/

/-- A READ_INFO with an octet, an empty EDIT_CLOSE, lengths next to the ranges of SET_PALETTE and
OVL_WRITE, and code 0x05. -/
theorem witness_WrongLengthIsRefused :
    Ready 1 ready ∧ sequencedRow 1 0x01 [0] = some (.readInfo 1 [0]) ∧ 1 ∉ payloadLengths 0x01 ∧
    0 ∉ payloadLengths 0x21 ∧ 1 ∈ payloadLengths 0x21 ∧ sequencedRow 1 0x21 [] = none ∧
    7 ∈ payloadLengths 0x24 ∧ 162 ∈ payloadLengths 0x24 ∧ 167 ∉ payloadLengths 0x24 ∧
    9 ∉ payloadLengths 0x30 ∧ 209 ∈ payloadLengths 0x30 ∧ 210 ∉ payloadLengths 0x30 ∧
    sequencedRow 1 0x05 [] = some (.unknownCode 1 0x05 []) ∧ payloadLengths 0x05 = [] := by
  decide +kernel

/-- A store command in execution; sequence 2 is new. -/
theorem witness_NewCommandWaitsWhileBusy :
    writing.resetLow = false ∧ writing.os.clearing = false ∧ 1 ≤ writing.mlu.address ∧
    writing.mlu.address ≤ 30 ∧ writing.ce.exec.isSome = true ∧
    writing.ce.queue.length < 8 ∧ writing.ce.sequencedResponses + writing.ce.reservations < 8 ∧
    newSequence writing.ce.lastSeq 2 = true ∧ newSequence writing.ce.lastSeq 17 = true ∧
    sequencedRow 2 0x34 [] = some (.setFence 2 []) := by decide +kernel

/-- A READ_INFO alone; a SET_FENCE, an OVL_READ and two broadcast COMMITs, each with a command behind it. -/
theorem witness_CommandsBeginInTurn :
    Ready 1 ready ∧
    (let s := fun q => { ready with ce := { CommandEngine.initial with
       reservations := 2, queue := [q, first 0x01 []] } }
     decide ((∀ q ∈ [first 0x34 [], first 0x33 [], ⟨false, 0, 0x22, []⟩, ⟨false, 0, 0x22, [1]⟩],
       (s q).resetLow = false ∧ (s q).ce.exec = none ∧ (s q).os.op = none ∧
         (s q).ce.queue = q :: [first 0x01 []]) ∧
       (runSequenced 0x34 [] ready).2 = .done .badLength [] ∧
       (runSequenced 0x33 (List.replicate 10 0) ready).2 = .stays .store ∧
       (runBroadcastCommit [] ready).2 = some .commit ∧
       (runBroadcastCommit [1] ready).2 = none)) = true ∧
    sequencedRow 1 0x34 [] = some (.setFence 1 []) ∧
    (let s := { ready with ce := { CommandEngine.initial with queue := [first 0x01 []] } }
     decide (s.resetLow = false ∧ s.ce.exec = none ∧ s.os.op = none ∧
       s.ce.queue = [⟨true, 1, 0x01, []⟩])) = true ∧
    writing.ce.exec.isSome = true := by decide +kernel

/-- ABSENT; the bounds of each range of distances from 42; a sequence cached, one in execution, one
neither. -/
theorem witness_IntakeFollowsWindow :
    ready.ce.lastSeq = none ∧ (first 0x34 []).sequenced = true ∧
    exampleEngine.ce.lastSeq = some 42 ∧
    ([43, 58, 59, 26, 27, 42].map fun q : Byte => (q - 42).toNat) = [1, 16, 17, 240, 241, 0] ∧
    (exampleEngine.ce.cache.reverse.find? fun e => decide (e.seq = 41)).isSome = true ∧
    (∀ e ∈ exampleEngine.ce.cache, e.seq ≠ 42) ∧
    (∃ e ∈ exampleEngine.ce.exec, e.command.sequenced = true ∧ e.command.seq = 42) ∧
    241 ≤ ((30 : Byte) - 42).toNat ∧ (∀ e ∈ exampleEngine.ce.cache, e.seq ≠ 30) ∧
    exampleEngine.ce.queue = [] ∧ (∀ e ∈ exampleEngine.ce.exec, e.command.seq ≠ 30) :=
  ⟨rfl, rfl, rfl, by decide, by decide, by decide, ⟨_, rfl, rfl, rfl⟩, by decide, by decide, rfl,
    by decide⟩

/-- Nothing to end, a commit command waiting, and write bursts granted: the last one not clipped whole,
the last one, and one with more to come. -/
theorem witness_CancelEndsWaitingCommands :
    (∀ s ∈ [halfClipped, writing], s.resetLow = false ∧ s.os.clearing = false ∧
      1 ≤ s.mlu.address ∧ s.mlu.address ≤ 30 ∧ s.ce.slot = .free ∧ s.ce.queue = [] ∧
      ∃ e ∈ s.ce.exec, e.progress = .store ∧ e.command.sequenced = true ∧
      ∃ op ∈ s.os.op, op.running = true ∧ op.ending = false ∧ op.params.writes = true ∧
      op.next < op.params.steps ∧ ∃ g ∈ s.os.busy, g.owner = .ce ∧ g.request.write = true ∧
      g.request.addr + g.request.len ≤ 1048576 ∧
      (g.request.addr, g.request.len) = op.params.targetRun op.next) ∧
    1 ≤ ready.mlu.address ∧ ready.mlu.address ≤ 30 ∧
    ready.resetLow = false ∧ ready.os.clearing = false ∧ ready.ce.slot = .free ∧
    ready.ce.exec = none ∧ ready.ce.queue = [] ∧
    (committing .command .commit).ce.slot = .free ∧
    (committing .command .commit).ce.exec = some ⟨first 0x22 [], .commit⟩ ∧
    (first 0x22 []).sequenced = true := by decide +kernel

theorem witness_NodeResetLeavesDefaults :
    1 ≤ editing.mlu.address ∧ editing.mlu.address ≤ 30 ∧
    editing.resetLow = false ∧ editing.os.clearing = false ∧ editing.os.op = none ∧
    editing.ce.slot = .free := by decide

theorem witness_ReadStatusAnswersState :
    Ready 1 editing ∧ CounterLaw editing ∧ editing.ct.timer ≤ 64 ∧
    editing.out.geometry.total < 65536 ∧ editing.out.geometry.mgmt < 256 := by decide +kernel

/-- Masks 511 and 512, regions 15 and 16. -/
theorem witness_CountersMaskAndReportsAreSet :
    Ready 1 ready ∧ 511 < 512 ∧ (512 : Nat) < 65536 ∧ (15 : Byte).toNat ≤ 15 ∧
    16 ≤ (16 : Byte).toNat := by decide +kernel

theorem witness_SetTimingStoresParameters :
    Ready 1 ready ∧ FreeRun.default.Legal ∧
    (⟨⟨4400, 4096, 304, 4096, 4⟩, 100000, 255, .black⟩ : FreeRun).Legal ∧
    FreeRun.default.octets.length = 17 ∧ (List.replicate 17 (0 : Byte)).length = 17 ∧
    ready.rtu.lock = .freeRun ∧ inLock.rtu.lock = .locked ∧ inLock.rtu.locked.isSome = true ∧
    inLock.rtu.measured.isSome = true ∧ inHoldover.rtu.lock = .holdover ∧
    inHoldover.rtu.locked.isSome = true ∧ inHoldover.rtu.measured.isSome = true := by decide +kernel

/-! ### Witnesses: the overlay store -/

theorem witness_StoreCommandsEnterChecking :
    Ready 1 ready ∧ (List.replicate 1 (0 : Byte)).length = 1 ∧
    (List.replicate 200 (0 : Byte)).length = 200 := by decide +kernel

/-- Each outcome: an offset, past the store by one octet, footprints that share an address, a REJECT fence,
and a pass that ends at the last address. -/
theorem witness_ChecksDecideStoreOperation :
    (StoreParams.fill ⟨0, 4096, 4095, 0⟩ 2 1 0).fault = some 5 ∧
    (StoreParams.read ⟨0, 1, 0, 0⟩ 201).fault = some 9 ∧
    (StoreParams.copy ⟨0, 1, 0, 0⟩ ⟨0, 4097, 0, 0⟩ 1 1).fault = some 12 ∧
    (StoreParams.write ⟨1048575, 1, 0, 0⟩ [1, 2]).fault = none ∧
    1048575 < View.at ⟨1048575, 1, 0, 0⟩ 0 1 ∧
    (StoreParams.copy ⟨0, 2, 0, 0⟩ ⟨1, 3, 0, 0⟩ 2 1).fault = none ∧
    View.at ⟨1, 3, 0, 0⟩ 0 0 ≤ View.at ⟨0, 2, 0, 0⟩ 0 1 ∧
    (StoreParams.write ⟨0, 1, 0, 0⟩ [1]).rejectedBy ⟨.reject, 0, 1, 0, 0, 0, 0⟩ ∧
    (StoreParams.write ⟨1048575, 1, 0, 0⟩ [1]).fault = none ∧
    View.at ⟨1048575, 1, 0, 0⟩ 0 0 ≤ 1048575 ∧
    ¬ (StoreParams.write ⟨0, 1, 0, 0⟩ [1]).rejectedBy .default ∧
    0 < smallWrite.width ∧ 0 < smallWrite.height ∧ 0 < exampleCopy.width ∧
    0 < exampleCopy.height ∧
    (checking smallWrite).os.op = some (.checking smallWrite) ∧
    (checking smallWrite).ce.exec = some ⟨first 0x30 [], .store⟩ ∧
    (checking smallWrite).ce.queue = [] ∧
    smallWrite.refusal [⟨.reject, 0, 256, 0, 255, 0, 15⟩] = some (.fenced, [0]) := by decide +kernel

/-- A copy from its checks on, with the store to itself. -/
theorem witness_StoreOperationWritesFootprint :
    Memory.Wf (checking exampleCopy).os.cells ∧
    (checking exampleCopy).os.op = some (.checking exampleCopy) ∧ exampleCopy.writes = true ∧
    exampleCopy.refusal (checking exampleCopy).os.fences = none ∧
    storeIdle (checking exampleCopy) ∧
    (checking exampleCopy).ce.exec = some ⟨first 0x30 [], .store⟩ ∧
    (first 0x30 []).sequenced = true ∧ (checking exampleCopy).ce.queue = [] ∧
    (checking exampleCopy).ce.cancel = none := by decide +kernel

theorem witness_StoreReadAnswersOctets :
    (checking (.read ⟨0, 16, 3, 0⟩ 200)).os.op = some (.checking (.read ⟨0, 16, 3, 0⟩ 200)) ∧
    StoreParams.refusal (.read ⟨0, 16, 3, 0⟩ 200)
      (checking (.read ⟨0, 16, 3, 0⟩ 200)).os.fences = none ∧
    storeIdle (checking (.read ⟨0, 16, 3, 0⟩ 200)) ∧
    (checking (.read ⟨0, 16, 3, 0⟩ 200)).ce.cancel = none := by decide +kernel

theorem witness_EngineWriteBurstCompletes :
    Memory.Wf writingLawful.os.cells ∧ writingLawful.os.op.isSome = true ∧
    writingLawful.os.busy = some ⟨.ce, ⟨true, 100, 3⟩, false⟩ ∧ 100 + 3 ≤ 1048576 ∧
    writingLawful.ce.queue = [] := by decide +kernel

theorem witness_FenceAndMeasureReads :
    Ready 1 ready ∧ ready.os.fences[3]? = some .default ∧
    exampleMonitor.mon.monitors[4]? = some (exampleMonitor.mon.monitor 4) ∧
    Ready 1 exampleMonitor ∧ (exampleMonitor.mon.monitor 4).record.isSome = true ∧
    ready.mon.monitors[15]? = some .initial ∧ Monitor.initial.record = none := by decide +kernel

/-! ### Witnesses: spans, pixels and the monitor -/

/-- The last burst of one span, with another span behind it. -/
def fetching : State :=
  { ready with
    sf := { SpanFetcher.initial with
      filling := { owner := some 4, status :=
        ((List.replicate 16 SpanStatus.none).set 3 (.placed 0 70)).set 5 (.placed 70 9)
                   octets := [] }
      fetch := some ⟨[3, 5], [⟨3, 0, 70, 200, 64⟩, ⟨5, 70, 9, 900, 0⟩]⟩ }
    os := { ready.os with busy := some ⟨.sf, ⟨false, 264, 6⟩, false⟩ } }

theorem witness_SpanBurstFillsBuffer :
    fetching.os.busy = some ⟨.sf, ⟨false, 264, 6⟩, false⟩ ∧ 264 + 6 ≤ 1048576 ∧
    fetching.sf.fetch = some ⟨[3, 5], ⟨3, 0, 70, 200, 64⟩ :: [⟨5, 70, 9, 900, 0⟩]⟩ ∧
    Memory.Wf fetching.sf.filling.octets ∧ 3 < fetching.sf.filling.status.length := by
  decide +kernel

/-- Example 5-1, and the first and last line of one of its regions. -/
theorem witness_SpansFillBufferInOrder :
    (∀ i < 16, (exampleBank.region i).layer ≤ 15) ∧ (exampleBank.region 9).Legal ∧
    (exampleBank.region 9).source = .overlay ∧ (exampleBank.region 9).y0 ≤ 100 ∧
    199 ≤ (exampleBank.region 9).y1 ∧ (exampleBank.region 9).x0 < 1 ∧
    fillList exampleBank 4096 120 = [9, 2, 11, 5] := by decide +kernel

theorem witness_RegionCombinesChannels :
    Colour.defaultSlate.Legal ∧ (⟨1023, 0, 1023⟩ : Colour).Legal ∧
    (5 : BitVec 3).getLsbD 1 = false ∧ (5 : BitVec 3).getLsbD 0 = true := by decide

/-- A FILL region with op COPY alone at a pixel. -/
def painted : State :=
  { ready with ct := { CompositionTable.initial with
      activeSet := bankOf [(15, { regionOn 15 0 0 9 9 with fill := ⟨1, 2, 3⟩ })] } }

/-- The bank of `painted` is legal (R1). -/
theorem painted_bank_legal : painted.ct.activeSet.Legal := by
  refine ⟨?_, ?_, ?_, ?_, ?_, ?_⟩ <;> decide +kernel

theorem witness_ComposedPixels :
    painted.ct.activeSet.Legal ∧ Colour.defaultSlate.Legal ∧ takesPart painted 9 9 15 = true ∧
    (painted.ct.activeSet.region 15).source = .fill ∧
    (painted.ct.activeSet.region 15).op = .copy ∧ (painted.ct.activeSet.region 15).mask = 7 ∧
    (∀ i < 16, takesPart painted 10 9 i = false) ∧
    (∀ k < 16, k ≠ 15 → takesPart painted 9 9 k = false) :=
  ⟨painted_bank_legal, by decide +kernel⟩

/-- The bank of Example 4-1 is legal (R1). -/
theorem example_bank_legal : (threeRegions (some 200)).Legal := by
  refine ⟨?_, ?_, ?_, ?_, ?_, ?_⟩ <;> decide +kernel

/-- An INPUT region on top, and under cue mask 1 an OVERLAY region on top, its span present or missing, its
index 200 the key or not. -/
theorem witness_ComposedPixels_sources :
    (threeRegions (some 200)).Legal ∧
    takesPart (pixelState (some 200) .late 0) 640 100 0 = true ∧
    takesPart (pixelState (some 200) .late 1) 640 100 7 = true ∧
    (∀ k < 16, k ≠ 0 → visitedBefore (threeRegions (some 200)) k 0 ∨
      takesPart (pixelState (some 200) .late 0) 640 100 k = false) ∧
    (∀ k < 16, k ≠ 7 → visitedBefore (threeRegions (some 200)) k 7 ∨
      takesPart (pixelState (some 200) .late 1) 640 100 k = false) ∧
    ((threeRegions (some 200)).region 0).source = .input ∧
    ((threeRegions (some 200)).region 7).source = .overlay ∧
    (pixelState (some 200) .late 1).sf.showing.statusOf 7 = .late ∧
    (pixelState (some 200) (.present 0 100) 1).sf.showing.statusOf 7 = .present 0 100 ∧
    Memory.read (pixelState (some 200) .late 1).sf.showing.octets (0 + (640 - 620)) = 200 ∧
    ((threeRegions none).entry 200).opacity ≠ 0 ∧ ((threeRegions none).entry 0).opacity = 0 :=
  ⟨example_bank_legal, by decide +kernel⟩

/-- Cue 1 is the last of line 100 that names region 4, cue 0 the last that names region 3; no cue names
region 5. -/
theorem witness_LastCueDecides :
    (exampleCues.cue 1).enable = true ∧ (exampleCues.cue 1).line = 100 ∧
    (exampleCues.cue 1).action ≠ .notifyCue ∧ (exampleCues.cue 1).regions.getLsbD 4 = true ∧
    (exampleCues.cue 0).regions.getLsbD 3 = true ∧
    (∀ l < 8, 0 < l → (exampleCues.cue l).line = 100 →
      (exampleCues.cue l).regions.getLsbD 3 = false) ∧
    (∀ l < 8, 1 < l → (exampleCues.cue l).line = 100 →
      (exampleCues.cue l).regions.getLsbD 4 = false) ∧
    (∀ k < 8, (exampleCues.cue k).line = 100 → (exampleCues.cue k).regions.getLsbD 5 = false) := by
  decide +kernel

/-- A measuring region on the first and the last line of its rectangle. -/
theorem witness_MonitorTakesActiveLine :
    (let s := { exampleMonitor with
       mon := { exampleMonitor.mon with measuring := true }
       out := { exampleMonitor.out with inputTimed := true } }
     decide (s.mon.measuring = true ∧ s.out.inputTimed = true ∧ 9 < s.out.geometry.active ∧
       s.mon.monitors[4]? = some (s.mon.monitor 4) ∧ s.mon.monitors[0]? = some .initial ∧
       (s.ct.activeSet.region 4).measure = true ∧ (s.ct.activeSet.region 4).y0 ≤ 0 ∧
       9 ≤ (s.ct.activeSet.region 4).y1 ∧ Monitor.initial.count = 0)) = true := by decide +kernel

/-- A region with a threshold and one without; means at both bounds. -/
theorem witness_LatchFollowsMonitorRules :
    (exampleMonitor.ct.activeSet.region 4).threshold = some (100, 900) ∧
    (exampleMonitor.ct.activeSet.region 0).threshold = none ∧
    4 < exampleMonitor.mon.monitors.length ∧ (100 : Nat) ≤ 100 ∧ (900 : Nat) ≤ 900 ∧
    (99 : Nat) < 100 ∧ (900 : Nat) < 901 ∧
    ((exampleMonitor.mon.monitor 4).measurement 706).mean = some 61 ∧
    0 < ((exampleMonitor.mon.monitor 4).measurement 706).count := by decide +kernel

/-! ### Witnesses: management lines and notifications -/

/-- A node with address 3, LOCKED, at a packet-start position of an input MGMT line. -/
def node : State :=
  { inLock with
    rtu := { inLock.rtu with cur := some (line .mgmt 0) }
    mlu := { ManagementUnit.initial with address := 3, parse := some ⟨5, false, []⟩ } }

theorem witness_PacketIsParsedWhole :
    node.mlu.parse = some ⟨5, false, []⟩ ∧ (List.replicate 240 (0 : Byte)).length ≤ 240 := by
  decide +kernel

/-- The own address, other addresses and 0 at node address 0, a broken CRC, the broadcast codes in LOCKED
and outside it, another kind, hop counts at the bounds of their rows. -/
theorem witness_TakenPacketsAreDisposed :
    node.rtu.cur = some (line .mgmt 0) ∧ packetCrcGood [0x5C, 3, 0, 1, 0, 0, 0, 0, 0] = false ∧
    (3 : Byte).toNat = node.mlu.address ∧ 1 ≤ node.mlu.address ∧ node.mlu.address ≤ 30 ∧
    (30 : Byte).toNat ≠ 31 ∧ ((30 : Byte).toNat = node.mlu.address → node.mlu.address = 0) ∧
    ((0 : Byte).toNat = State.reset.mlu.address → State.reset.mlu.address = 0) ∧
    (0x02 : Byte) ≠ 0x01 ∧ (0x02 : Byte) ≠ 0x04 ∧ (List.replicate 240 (0 : Byte)).length ≤ 240 ∧
    (0x23 : Byte) ≠ 0x22 ∧ (0x23 : Byte) ≠ 0x71 ∧ node.resetLow = false ∧
    node.os.clearing = false ∧ node.rtu.lock = .locked ∧ inHoldover.rtu.lock ≠ .locked ∧
    (29 : Byte).toNat ≤ 29 ∧ ¬ (30 : Byte).toNat ≤ 29 ∧
    (List.replicate 239 (0 : Byte)).length ≤ 239 := by decide +kernel

/-- A full area, a node without address and one with both kinds queued; an internal MGMT line and one in
input timing, with nothing else at their line starts; a full queue with both counts one below their
limits. -/
theorem witness_AssemblyOrdersPackets :
    [List.replicate 58 (1 : Byte)].flatten.length ≤ 3 * 64 ∧ State.reset.mlu.address = 0 ∧
    1 ≤ exampleQueues.mlu.address ∧ (List.replicate 192 (1 : Byte)).length = 3 * 64 ∧
    (atLine 0).out.line + 1 < (atLine 0).out.geometry.total ∧
    (atLine 0).out.line + 1 ≤ (atLine 0).out.geometry.mgmt ∧
    (atLine 0).out.line + 1 < (atLine 0).out.geometry.firstActive ∧
    (atLine 0).out.line + 2 ≠ (atLine 0).out.geometry.firstActive ∧
    (atLine 0).out.activeCount = 0 ∧ (atLine 0).out.running = true ∧
    (∀ l ∈ inLock.rtu.cur, l.kind = .active → l.frameStart = true) ∧
    (∀ p ∈ inLock.mlu.parse, p.ended = true ∨ p.packet = []) ∧ inLock.out.activeCount = 0 ∧
    (line .mgmt 4).forward.flatten.length ≤ 3 * (line .mgmt 4).words.length ∧
    ready.nq.mask.getLsbD (Notice.cue 0).position = true ∧
    (let q : NotificationQueue := { NotificationQueue.initial with
       entries := ⟨.cue 0, 0, 0⟩ :: List.replicate 15 ⟨.cue 0, 0, 0⟩, lost := 254, lostTotal := 65534 }
     q.entries.tail.length = 15 ∧ q.lost ≤ 254 ∧ q.lostTotal ≤ 65534) := by
  decide +kernel

/-- A masked kind, a place left, a full queue with both counts at their limits. -/
theorem witness_OfferRule :
    (0x00FF : BitVec 9).getLsbD (Notice.measure 0 ⟨0, 0, 0, 0, 0, none⟩).position = false ∧
    ready.nq.mask.getLsbD (Notice.cue 0).position = true ∧ ready.nq.entries.length < 16 ∧
    (let s := { ready with nq := { NotificationQueue.initial with
       entries := List.replicate 16 ⟨.cue 0, 0, 0⟩, lost := 255, lostTotal := 65535 } }
     decide (16 ≤ s.nq.entries.length ∧ s.nq.lost ≤ 255 ∧ s.nq.lostTotal ≤ 65535 ∧
       s.nq.entries.length ≤ 16)) = true := by decide +kernel

end Sys2Proof.Tests
end

section
/-! Payload checks: what passes them is a legal record (R5, R6, R13, R14, R105). -/

namespace Sys2Proof.Machine

/-! ### Checks in order -/

/-- The checks all pass exactly when none fails first. -/
theorem firstFailing_eq_none {checks : List (Bool × Nat)} :
    firstFailing checks = none ↔ ∀ c ∈ checks, c.1 = true := by
  induction checks with
  | nil => simp [firstFailing]
  | cons c checks ih =>
    obtain ⟨passes, offset⟩ := c
    cases passes <;> simp [firstFailing, ih]

/-- The offset reported is that of one of the checks. -/
theorem firstFailing_mem {checks : List (Bool × Nat)} {o : Nat}
    (h : firstFailing checks = some o) : o ∈ checks.map Prod.snd := by
  induction checks with
  | nil => simp [firstFailing] at h
  | cons c checks ih =>
    obtain ⟨passes, offset⟩ := c
    cases passes
    · simp_all [firstFailing]
    · exact List.mem_cons_of_mem _ (ih h)

/-- A checked command whose checks pass has its effect. -/
theorem checked_pass {checks : List (Bool × Nat)} {effect : State → State × Result} {s : State}
    (h : ∀ c ∈ checks, c.1 = true) : checked checks effect s = effect s := by
  rw [checked, firstFailing_eq_none.2 h]

/-- A checked command is refused with the offset of one of its checks, or has its effect with all of
them passed. -/
theorem checked_cases (checks : List (Bool × Nat)) (effect : State → State × Result) :
    (∃ o ∈ checks.map Prod.snd, ∀ s, checked checks effect s = (s, .badField o)) ∨
    ((∀ c ∈ checks, c.1 = true) ∧ ∀ s, checked checks effect s = effect s) := by
  cases h : firstFailing checks with
  | some o => exact .inl ⟨o, firstFailing_mem h, fun s => by rw [checked, h]⟩
  | none =>
    have hall := firstFailing_eq_none.1 h
    exact .inr ⟨hall, fun s => checked_pass hall⟩

/-! ### Ranges of fields -/

theorem bigEndian_concat (l : List Byte) (b : Byte) :
    bigEndian (l ++ [b]) = bigEndian l * 256 + b.toNat := by
  simp [bigEndian]

theorem bigEndian_lt (l : List Byte) : bigEndian l < 256 ^ l.length := by
  induction l using List.reverseRecOn with
  | nil => simp [bigEndian]
  | append_singleton l b ih =>
    have hb : b.toNat < 256 := b.isLt
    rw [bigEndian_concat, List.length_append, List.length_singleton, Nat.pow_succ]
    omega

/-- A field of `n` octets stays below 256 to the `n`. -/
theorem fieldAt_lt (p : List Byte) (o n : Nat) : fieldAt p o n < 256 ^ n :=
  Nat.lt_of_lt_of_le (bigEndian_lt _)
    (Nat.pow_le_pow_right (by decide) (List.length_take_le ..))

/-- Ten bits are a channel value. -/
theorem colourOf_legal (v : Nat) : (colourOf v).Legal := by
  simp only [Colour.Legal, colourOf]
  omega

/-! ### Legal records -/

theorem opFitsSource_iff {op : RegionOp} {source : Source} :
    opFitsSource op source = true ↔ opMatches op source := by
  cases op <;> simp [opFitsSource, opMatches]

/-- The checks of SET_REGION pass only a legal record (R5, R6). -/
theorem regionAt_legal {p : List Byte}
    (h : ∀ c ∈ regionRangeChecks p ++ regionWholeChecks (regionAt p 1), c.1 = true) :
    (regionAt p 1).Legal ∧ fieldAt p 0 1 ≤ 15 := by
  have hlimit : fieldAt p 33 1 < 256 := fieldAt_lt p 33 1
  have hthreshold : thresholdOrdered (regionAt p 1).threshold = true →
      thresholdLegal (regionAt p 1).threshold := by
    simp only [regionAt]
    split
    · simp only [thresholdOrdered, decide_eq_true_eq, thresholdLegal, Option.mem_some_iff,
        forall_eq']
      omega
    · simp
  obtain ⟨hrange, hwhole⟩ := List.forall_mem_append.1 h
  simp only [regionWholeChecks, List.forall_mem_cons, Bool.or_eq_true, Bool.not_eq_true',
    decide_eq_true_eq, decide_eq_false_iff_not] at hwhole
  obtain ⟨hop, hmask, horder, hright, hbottom, -⟩ := hwhole
  simp only [regionRangeChecks, List.forall_mem_cons, Bool.and_eq_true, decide_eq_true_eq]
    at hrange
  have hop := opFitsSource_iff.1 hop
  have hfill := colourOf_legal (fieldAt p (1 + 13) 4)
  refine ⟨⟨?_, ?_, ?_, ?_, ?_, hop, hmask, ?_, hfill, ?_, ?_, ?_, ?_, ?_, hthreshold horder, ?_,
    fun hs => ⟨hright.resolve_left (· hs), hbottom.resolve_left (· hs)⟩⟩, hrange.1⟩ <;>
    simp only [regionAt, Nat.reduceAdd] <;> omega

/-- The checks of SET_PALETTE pass only legal entries (R13). -/
theorem paletteEntryAt_legal {p : List Byte} {n k : Nat}
    (h : ∀ c ∈ paletteChecks p n, c.1 = true) (hk : k < n) :
    (paletteEntryAt p (2 + 5 * k)).Legal := by
  have hopacity := h (decide (fieldAt p (6 + 5 * k) 1 ≤ 16), 6 + 5 * k)
    (List.mem_append_right _ (List.mem_flatMap.2 ⟨k, List.mem_range.2 hk, by
      simp [paletteEntryChecks]⟩))
  refine ⟨colourOf_legal _, ?_⟩
  have : 2 + 5 * k + 4 = 6 + 5 * k := by omega
  simpa [paletteEntryAt, this] using hopacity

/-- The checks of SET_CUE pass only a legal record (R14). -/
theorem cueAt_legal {p : List Byte} (h : ∀ c ∈ cueChecks p, c.1 = true) : (cueAt p 1).Legal := by
  simp only [cueChecks, List.forall_mem_cons, decide_eq_true_eq] at h
  obtain ⟨-, -, -, hline, -⟩ := h
  exact hline

/-- The checks of SET_FENCE pass only a legal record (R105). -/
theorem fenceAt_legal {p : List Byte} (h : ∀ c ∈ fenceChecks p, c.1 = true) :
    (fenceAt p 1).Legal := by
  simp only [fenceChecks, List.forall_mem_cons, Bool.and_eq_true, decide_eq_true_eq] at h
  obtain ⟨-, -, hbase, ⟨hpitch, hpitch'⟩, -, hx1, -, hy1, hx, hy, -⟩ := h
  exact ⟨hbase, hpitch, hpitch', hx, hx1, hy, hy1⟩

end Sys2Proof.Machine
end

section
/-! Which operations leave the active bank and keep the records legal (R11, R30, R101, R105). -/

namespace Sys2Proof.Machine

/-! ### Records left as they are, and records kept legal -/

/-- The CT and the fences are as they were. -/
abbrev SameRecords (s t : State) : Prop := t.ct = s.ct ∧ t.os.fences = s.os.fences

/-- The active bank is as it was, and legal records stay legal: what everything but a commit does. -/
def RecordsKept (s t : State) : Prop :=
  t.ct.activeSet = s.ct.activeSet ∧ (RecordsLegal s → RecordsLegal t)

theorem RecordsKept.refl (s : State) : RecordsKept s s := ⟨rfl, id⟩

theorem RecordsKept.trans {s t u : State} (h : RecordsKept s t) (k : RecordsKept t u) :
    RecordsKept s u := ⟨k.1.trans h.1, k.2 ∘ h.2⟩

/-- With the active bank and the fences as they were, the pending bank must stay legal. -/
theorem RecordsKept.of_pending {s t : State} (ha : t.ct.activeSet = s.ct.activeSet)
    (hf : t.os.fences = s.os.fences)
    (hp : RecordsLegal s → t.ct.pendingSet.Legal) : RecordsKept s t := by
  refine ⟨ha, fun h => ⟨hp h, ?_⟩⟩
  obtain ⟨-, hactive, hlen, hfences⟩ := h
  exact ⟨ha ▸ hactive, hf ▸ hlen, hf ▸ hfences⟩

/-- With both banks and the fences as they were nothing is to show. -/
theorem RecordsKept.of_banks {s t : State} (hp : t.ct.pendingSet = s.ct.pendingSet)
    (ha : t.ct.activeSet = s.ct.activeSet) (hf : t.os.fences = s.os.fences) : RecordsKept s t :=
  .of_pending ha hf fun h => hp ▸ h.1

theorem SameRecords.kept {s t : State} (h : SameRecords s t) : RecordsKept s t :=
  .of_banks (by rw [h.1]) (by rw [h.1]) h.2

/-- Acts that each keep the records keep them together. -/
theorem RecordsKept.run {acts : List (State → State)}
    (h : ∀ act ∈ acts, ∀ x, RecordsKept x (act x)) (s : State) : RecordsKept s (runActs acts s) :=
  runActs_induct (P := RecordsKept s) (fun act ha x hx => hx.trans (h act ha x)) (.refl s)

/-! ### Operations of the store that leave its fences -/

@[simp] theorem OverlayStore.grant_fences (o : OverlayStore) : o.grant.fences = o.fences := by
  unfold OverlayStore.grant; split <;> rfl

@[simp] theorem grantStore_fences (s : State) : (grantStore s).os.fences = s.os.fences := by
  simp [grantStore]

@[simp] theorem requestSpan_fences (s : State) : (requestSpan s).os.fences = s.os.fences := by
  simp [requestSpan]

@[simp] theorem emptyRecord_fences (s : State) : (emptyRecord s).os.fences = s.os.fences := by
  simp [emptyRecord]

@[simp] theorem startFetch_fences (t : Nat) (s : State) :
    (startFetch t s).os.fences = s.os.fences := by
  simp [startFetch]

@[simp] theorem discardSpanBurst_fences (s : State) :
    (discardSpanBurst s).os.fences = s.os.fences := by
  unfold discardSpanBurst; split <;> simp

@[simp] theorem stopFetch_fences (s : State) : (stopFetch s).os.fences = s.os.fences := by
  simp [stopFetch]

@[simp] theorem completeSpanBurst_fences (g : Grant) (s : State) :
    (completeSpanBurst g s).os.fences = s.os.fences := by
  simp only [completeSpanBurst]; split_ifs <;> simp

@[simp] theorem spanLineStart_fences (t : Nat) (s : State) :
    (spanLineStart t s).1.os.fences = s.os.fences := by
  simp only [spanLineStart]; split_ifs <;> simp

@[simp] theorem spanFrameStart_fences (s : State) :
    (spanFrameStart s).os.fences = s.os.fences := by
  simp [spanFrameStart]

@[simp] theorem cutOperation_fences (s : State) :
    (cutOperation s).1.os.fences = s.os.fences := by
  unfold cutOperation; split <;> simp

@[simp] theorem setReady_fences (s : State) : (setReady s).os.fences = s.os.fences := by
  simp [setReady]

/-! ### Default records -/

theorem default_set_legal : CompositionSet.default.Legal := by
  refine ⟨by simp [CompositionSet.default], by simp [CompositionSet.default],
    by simp [CompositionSet.default], fun r hr => ?_, fun e he => ?_, fun c hc => ?_⟩
  · rw [List.eq_of_mem_replicate hr]; decide
  · obtain ⟨i, hi, rfl⟩ := List.mem_map.1 he
    have hi := List.mem_range.1 hi
    simp only [PaletteEntry.Legal, Colour.Legal, PaletteEntry.default]
    split_ifs <;> omega
  · rw [List.eq_of_mem_replicate hc]; decide

theorem default_fences_legal : Fence.defaults.length = 4 ∧ ∀ f ∈ Fence.defaults, f.Legal := by
  decide

/-! ### The set commands -/

/-- A set keeps what holds of every member, if it holds of the one put in. -/
theorem forall_mem_set {α : Type} {P : α → Prop} {l : List α} {i : Nat} {a : α}
    (hl : ∀ x ∈ l, P x) (ha : P a) : ∀ x ∈ l.set i a, P x := fun x hx =>
  (List.mem_or_eq_of_mem_set hx).elim (hl x) fun h => h ▸ ha

theorem whileOpen_recordsKept {run : State → State × Result} {s : State}
    (h : RecordsKept s (run s).1) : RecordsKept s (whileOpen run s).1 := by
  unfold whileOpen; split_ifs
  · exact h
  · exact .refl s

theorem checked_recordsKept {checks : List (Bool × Nat)} {effect : State → State × Result}
    {s : State} (h : (∀ c ∈ checks, c.1 = true) → RecordsKept s (effect s).1) :
    RecordsKept s (checked checks effect s).1 := by
  rcases checked_cases checks effect with ⟨o, -, ho⟩ | ⟨hpass, heff⟩
  · rw [ho]; exact .refl s
  · rw [heff]; exact h hpass

theorem runSetRegion_recordsKept (p : List Byte) (s : State) :
    RecordsKept s (runSetRegion p s).1 := by
  refine whileOpen_recordsKept (checked_recordsKept fun hpass => .of_pending rfl rfl fun h => ?_)
  obtain ⟨⟨hlen, hpal, hcues, hregions, hrest⟩, -⟩ := h
  exact ⟨by simpa [putRegion] using hlen, hpal, hcues,
    forall_mem_set hregions (regionAt_legal hpass).1, hrest⟩

@[simp] theorem putEntries_length (p : List Byte) (first n : Nat) (palette : List PaletteEntry) :
    (putEntries p first n palette).length = palette.length := by
  induction n with
  | zero => rfl
  | succ n ih => simp [putEntries, ih]

/-- Legal entries put into a legal palette leave it legal. -/
theorem putEntries_legal {p : List Byte} {first n : Nat} {palette : List PaletteEntry}
    (hpal : ∀ e ∈ palette, e.Legal) (hput : ∀ k < n, (paletteEntryAt p (2 + 5 * k)).Legal) :
    ∀ e ∈ putEntries p first n palette, e.Legal := by
  induction n with
  | zero => exact hpal
  | succ n ih =>
    exact forall_mem_set (ih fun k hk => hput k (by omega)) (hput n (by omega))

theorem runSetPalette_recordsKept (p : List Byte) (s : State) :
    RecordsKept s (runSetPalette p s).1 := by
  refine whileOpen_recordsKept (checked_recordsKept fun hpass => .of_pending rfl rfl fun h => ?_)
  obtain ⟨⟨hlen, hpal, hcues, hregions, hentries, hlegal⟩, -⟩ := h
  exact ⟨hlen, by simpa using hpal, hcues, hregions,
    putEntries_legal hentries fun k hk => paletteEntryAt_legal hpass hk, hlegal⟩

theorem runSetCue_recordsKept (p : List Byte) (s : State) : RecordsKept s (runSetCue p s).1 := by
  refine whileOpen_recordsKept (checked_recordsKept fun hpass => .of_pending rfl rfl fun h => ?_)
  obtain ⟨⟨hlen, hpal, hcues, hregions, hentries, hlegal⟩, -⟩ := h
  exact ⟨hlen, hpal, by simpa using hcues, hregions, hentries,
    forall_mem_set hlegal (cueAt_legal hpass)⟩

theorem runSetFence_recordsKept (p : List Byte) (s : State) :
    RecordsKept s (runSetFence p s).1 := by
  refine checked_recordsKept fun hpass => ⟨rfl, fun h => ?_⟩
  obtain ⟨hpending, hactive, hlen, hfences⟩ := h
  exact ⟨hpending, hactive, by simpa using hlen, forall_mem_set hfences (fenceAt_legal hpass)⟩

/-! ### Edits -/

/-- A discarded edit leaves a copy of the active bank. -/
theorem discardEdit_recordsKept (s : State) : RecordsKept s (discardEdit s) :=
  .of_pending rfl rfl fun h => h.2.1

theorem requestCommit_recordsKept (s : State) : RecordsKept s (requestCommit s) :=
  .of_banks rfl rfl rfl

theorem openEdit_recordsKept (n : Nat) (s : State) : RecordsKept s (openEdit n s) :=
  .of_banks rfl rfl rfl

theorem offer_recordsKept (n : Notice) (s : State) : RecordsKept s (offer n s) :=
  SameRecords.kept (by simp [SameRecords])

theorem expireEdit_recordsKept (s : State) : RecordsKept s (expireEdit s) :=
  (discardEdit_recordsKept s).trans (offer_recordsKept _ _)

theorem countEdit_recordsKept (s : State) : RecordsKept s (countEdit s) := by
  unfold countEdit; split_ifs
  · exact expireEdit_recordsKept s
  · exact .of_banks rfl rfl rfl

theorem runEditOpen_recordsKept (p : List Byte) (s : State) :
    RecordsKept s (runEditOpen p s).1 := by
  simp only [runEditOpen]; split_ifs
  · exact .refl s
  · exact .refl s
  · exact .refl s
  · exact openEdit_recordsKept _ s

theorem runEditClose_recordsKept (p : List Byte) (s : State) :
    RecordsKept s (runEditClose p s).1 := by
  unfold runEditClose; split_ifs
  · split
    · exact discardEdit_recordsKept s
    · exact .of_banks rfl rfl rfl
    · exact .of_banks rfl rfl rfl
    · exact .refl s
  · exact .refl s

theorem runCommit_recordsKept (s : State) : RecordsKept s (runCommit s).1 := by
  unfold runCommit; split_ifs
  · exact .refl s
  · exact requestCommit_recordsKept s

theorem runBroadcastCommit_recordsKept (p : List Byte) (s : State) :
    RecordsKept s (runBroadcastCommit p s).1 := by
  unfold runBroadcastCommit; split_ifs
  · exact .refl s
  · exact offer_recordsKept _ s
  · exact requestCommit_recordsKept s

/-! ### Execution -/

/-- A command executed by its block keeps the records. -/
theorem Command.run_recordsKept (c : Command) (p : List Byte) (s : State) :
    RecordsKept s (c.run p s).1 := by
  cases c with
  | setRegion => exact runSetRegion_recordsKept p s
  | setPalette => exact runSetPalette_recordsKept p s
  | setCue => exact runSetCue_recordsKept p s
  | setFence => exact runSetFence_recordsKept p s
  | editOpen => exact runEditOpen_recordsKept p s
  | editClose => exact runEditClose_recordsKept p s
  | commit => exact runCommit_recordsKept s
  | readInfo | readStatus => exact .refl s
  | clearCounters => exact SameRecords.kept (by simp [SameRecords, Command.run, runClearCounters])
  | ovlWrite | ovlFill | ovlCopy | ovlRead => exact .of_banks rfl rfl rfl
  | setNotifyMask | setTiming | readRegion | readPalette | readCue | readFence | readMeasure
  | setReport => exact checked_recordsKept fun _ => .of_banks rfl rfl rfl

theorem runSequenced_recordsKept (code : Byte) (p : List Byte) (s : State) :
    RecordsKept s (runSequenced code p s).1 := by
  unfold runSequenced; split
  · exact .refl s
  · split_ifs
    · exact Command.run_recordsKept _ p s
    · exact .refl s

theorem beginQueued_recordsKept (q : Queued) (s : State) : RecordsKept s (beginQueued q s) := by
  have hseq := runSequenced_recordsKept q.code q.payload s
  have hbroadcast := runBroadcastCommit_recordsKept q.payload s
  unfold beginQueued
  split_ifs
  · split <;> rename_i t _ hrun <;> rw [hrun] at hseq
    · exact hseq.trans (SameRecords.kept (by simp [SameRecords]))
    · exact hseq.trans (.of_banks rfl rfl rfl)
  · split <;> rename_i hrun <;> rw [hrun] at hbroadcast
    · exact hbroadcast.trans (.of_banks rfl rfl rfl)
    · exact hbroadcast

theorem beginNext_recordsKept (s : State) : RecordsKept s (beginNext s) := by
  unfold beginNext; split_ifs
  · split
    · exact .refl s
    · exact (RecordsKept.of_banks rfl rfl rfl).trans (beginQueued_recordsKept _ _)
  · exact .refl s

theorem settleActs_recordsKept (s : State) :
    ∀ act ∈ settleActs s, ∀ x, RecordsKept x (act x) := fun act h x => by
  rw [List.eq_of_mem_replicate h]; exact beginNext_recordsKept x

theorem settleEngine_recordsKept (s : State) : RecordsKept s (settleEngine s) :=
  .run (settleActs_recordsKept s) s

/-- The engine settles behind an operation that leaves the records. -/
theorem settleEngine_recordsKept_after {s t : State} (h : SameRecords s t) :
    RecordsKept s (settleEngine t) := h.kept.trans (settleEngine_recordsKept t)

theorem completeCommand_recordsKept (st : Status) (d : List Byte) (s : State) :
    RecordsKept s (completeCommand st d s) := SameRecords.kept (by simp [SameRecords])

theorem takeCommitApplied_recordsKept (s : State) : RecordsKept s (takeCommitApplied s) := by
  unfold takeCommitApplied; split
  · exact completeCommand_recordsKept _ _ s
  · exact (openEdit_recordsKept _ s).trans (completeCommand_recordsKept _ _ _)
  · exact .refl s

/-! ### Store operations -/

theorem finishOperation_recordsKept (op : StoreOp) (s : State) :
    RecordsKept s (finishOperation op s) :=
  settleEngine_recordsKept_after (by simp [SameRecords])

theorem advanceOperation_recordsKept (op : StoreOp) (s : State) :
    RecordsKept s (advanceOperation op s) := by
  simp only [advanceOperation]; split
  · exact .of_banks rfl rfl rfl
  · exact finishOperation_recordsKept _ s

theorem grantStore_recordsKept (s : State) : RecordsKept s (grantStore s) :=
  SameRecords.kept (by simp [SameRecords])

theorem completeChecks_recordsKept (op : StoreOp) (s : State) :
    RecordsKept s (completeChecks op s) := by
  unfold completeChecks; split
  · exact settleEngine_recordsKept_after (by simp [SameRecords])
  · exact (advanceOperation_recordsKept _ s).trans (grantStore_recordsKept _)

theorem completeCancel_recordsKept (c : CancelWait) (d : List Byte) (s : State) :
    RecordsKept s (completeCancel c d s) :=
  settleEngine_recordsKept_after (by simp [SameRecords])

theorem endOperation_recordsKept (op : StoreOp) (s : State) :
    RecordsKept s (endOperation op s) := by
  have hempty : RecordsKept s (emptyRecord s) := SameRecords.kept (by simp [SameRecords])
  simp only [endOperation]; split
  · exact hempty.trans (completeCancel_recordsKept _ _ _)
  · exact hempty.trans (settleEngine_recordsKept _)

theorem completeWrite_recordsKept (op : StoreOp) (r : BurstRequest) (s : State) :
    RecordsKept s (completeWrite op r s) := by
  have hcells : ∀ m, RecordsKept s (s.withOs { s.os with cells := m }) := fun m =>
    .of_banks rfl rfl rfl
  simp only [completeWrite]; split_ifs
  · exact (hcells _).trans (endOperation_recordsKept _ _)
  · exact (hcells _).trans (advanceOperation_recordsKept _ _)

theorem completeRead_recordsKept (op : StoreOp) (r : BurstRequest) (s : State) :
    RecordsKept s (completeRead op r s) := by
  simp only [completeRead]; split_ifs
  · exact endOperation_recordsKept op s
  · exact .of_banks rfl rfl rfl
  · exact advanceOperation_recordsKept _ s

theorem completeEngineBurst_recordsKept (g : Grant) (s : State) :
    RecordsKept s (completeEngineBurst g s) := by
  refine RecordsKept.trans ?_ (grantStore_recordsKept _)
  have hfree : RecordsKept s (s.withOs { s.os with busy := none }) := .of_banks rfl rfl rfl
  refine hfree.trans ?_
  split
  · split_ifs
    · exact completeWrite_recordsKept _ _ _
    · exact completeRead_recordsKept _ _ _
  · exact .refl _

/-! ### Intake -/

theorem performCancel_recordsKept (seq code : Byte) (s : State) :
    RecordsKept s (performCancel seq code s) := by
  have hqueue : RecordsKept s (s.withCe { s.ce with queue := [] }) := .of_banks rfl rfl rfl
  have hrequest : ∀ (x : State) (r : Option Origin),
      RecordsKept x (x.withCt { x.ct with request := r }) := fun x r => .of_banks rfl rfl rfl
  simp only [performCancel]
  split
  · exact hqueue.trans (completeCancel_recordsKept _ _ _)
  · have hcut : SameRecords s (cutOperation (s.withCe { s.ce with queue := [] })).1 := by
      simp [SameRecords]
    split_ifs
    · exact hcut.kept.trans (.of_banks rfl rfl rfl)
    · exact hcut.kept.trans (completeCancel_recordsKept _ _ _)
  · exact hqueue.trans ((hrequest _ _).trans (completeCancel_recordsKept _ _ _))
  · exact hqueue.trans (completeCancel_recordsKept _ _ _)

/-- NODE_RESET leaves the default records pending and in the fences (R36, R179). -/
theorem performReset_recordsKept (s : State) : RecordsKept s (performReset s) := by
  refine ⟨by simp [performReset, resetCt], fun h => ?_⟩
  obtain ⟨-, hactive, -⟩ := h
  have hfences : (performReset s).os.fences = Fence.defaults := by
    simp [performReset, resetBlocks]
  refine ⟨default_set_legal, by simpa [performReset, resetCt] using hactive, ?_⟩
  rw [hfences]
  exact default_fences_legal

theorem discardCommand_recordsKept (s : State) : RecordsKept s (discardCommand s) :=
  .of_banks rfl rfl rfl

/-- Intake of an immediate command keeps the records, if its effect does. -/
theorem intakeImmediate_recordsKept {effect : State → State}
    (h : ∀ x, RecordsKept x (effect x)) (seq code : Byte) (p : List Byte) (s : State) :
    RecordsKept s (intakeImmediate effect seq code p s) := by
  simp only [intakeImmediate]; split_ifs
  · exact (RecordsKept.of_banks rfl rfl rfl).trans (h _)
  · exact SameRecords.kept (by simp [SameRecords])
  · exact discardCommand_recordsKept s

theorem intakeAddressed_recordsKept (seq code : Byte) (p : List Byte) (s : State) :
    RecordsKept s (intakeAddressed seq code p s) := by
  unfold intakeAddressed; split_ifs
  · exact intakeImmediate_recordsKept (fun x => performCancel_recordsKept _ _ x) ..
  · exact intakeImmediate_recordsKept (fun x =>
      (performReset_recordsKept x).trans (SameRecords.kept (by simp [SameRecords]))) ..
  · exact settleEngine_recordsKept_after (by simp [SameRecords])

theorem intakeBroadcast_recordsKept (code : Byte) (p : List Byte) (s : State) :
    RecordsKept s (intakeBroadcast code p s) := by
  unfold intakeBroadcast intakeBroadcastReset; split_ifs
  · exact performReset_recordsKept s
  · exact discardCommand_recordsKept s
  · exact settleEngine_recordsKept_after (by simp [SameRecords])

/-- A row handed over keeps the records. -/
theorem handOver_recordsKept {seq code : Byte} {p : List Byte} {s t : State}
    (h : handOver seq code p s = .next t) : RecordsKept s t := by
  unfold handOver at h; split_ifs at h <;> cases h
  · exact intakeAddressed_recordsKept seq code p s
  · exact .refl s

/-! ### Packets and pixel words -/

theorem forwardPacket_recordsKept (p : Packet) (s : State) :
    RecordsKept s (forwardPacket p s) := SameRecords.kept (by simp [SameRecords])

theorem takeBroadcast_recordsKept (p : Packet) (s : State) :
    RecordsKept s (takeBroadcast p s) := by
  simp only [takeBroadcast]; split_ifs
  · exact intakeBroadcast_recordsKept _ _ s
  · exact .of_banks rfl rfl rfl

/-- Two operations of one moment that each keep the records keep them in either order. -/
theorem eitherOrder_recordsKept {f g : State → State} (hf : ∀ x, RecordsKept x (f x))
    (hg : ∀ x, RecordsKept x (g x)) (s : State) : RecordsKept s (eitherOrder f g s) := by
  have hdraw : RecordsKept s (s.withFree (s.free + 1)) := .of_banks rfl rfl rfl
  simp only [eitherOrder]; split_ifs
  · exact hdraw.trans ((hf _).trans (hg _))
  · exact hdraw.trans ((hg _).trans (hf _))

theorem takePacket_recordsKept (p : Packet) (s : State) : RecordsKept s (takePacket p s) := by
  simp only [takePacket]; split_ifs
  · exact SameRecords.kept (by simp [SameRecords])
  · exact intakeAddressed_recordsKept _ _ _ s
  · exact eitherOrder_recordsKept (forwardPacket_recordsKept p) (takeBroadcast_recordsKept p) s
  · exact (forwardPacket_recordsKept p s).trans (takeBroadcast_recordsKept p _)
  · exact SameRecords.kept (by simp [SameRecords])
  · exact forwardPacket_recordsKept p s

theorem feedOctet_recordsKept (s : State) (o : Byte) : RecordsKept s (feedOctet s o) := by
  have hparse : ∀ (p : Option Parse) (x : State), RecordsKept x (setParse p x) := fun p x =>
    .of_banks rfl rfl rfl
  have herror : ∀ (p : Parse) (x : State), RecordsKept x (framingError p x) := fun p x =>
    .of_banks rfl rfl rfl
  simp only [feedOctet]
  split
  · exact .refl s
  · split_ifs
    · exact .refl s
    · exact hparse _ s
    · exact hparse _ s
    · exact herror _ s
    · exact herror _ s
    · exact (hparse _ s).trans (takePacket_recordsKept _ _)
    · exact hparse _ s

theorem feedOctets_recordsKept (l : List Byte) (s : State) :
    RecordsKept s (l.foldl feedOctet s) := by
  induction l generalizing s with
  | nil => exact .refl s
  | cons o l ih => exact (feedOctet_recordsKept s o).trans (ih _)

theorem takePixelWord_recordsKept (bits : BitVec 31) (s : State) :
    RecordsKept s (takePixelWord bits s) := by
  simp only [takePixelWord]
  split
  · exact .refl s
  · split_ifs
    · exact (RecordsKept.of_banks rfl rfl rfl).trans (feedOctets_recordsKept _ _)
    · exact .of_banks rfl rfl rfl
    · exact .of_banks rfl rfl rfl

end Sys2Proof.Machine
end

section
/-! The commit at an output line start: at most one, of the banks as the step found them (R30), and the
lock state that the events of a line start leave (R50). -/

namespace Sys2Proof.Machine

/-! ### At most one commit -/

/-- Legal records stay legal, and the active bank is as it was or, with the edit CLOSED and a commit
requested, the pending bank as it was (R30). -/
def CommitsAtMost (s t : State) : Prop :=
  (RecordsLegal s → RecordsLegal t) ∧
  (t.ct.activeSet = s.ct.activeSet ∨
    s.ct.editOpen = false ∧ s.ct.request.isSome = true ∧ t.ct.activeSet = s.ct.pendingSet)

theorem RecordsKept.commitsAtMost {s t : State} (h : RecordsKept s t) : CommitsAtMost s t :=
  ⟨h.2, .inl h.1⟩

theorem SameRecords.commitsAtMost {s t : State} (h : SameRecords s t) : CommitsAtMost s t :=
  h.kept.commitsAtMost

theorem CommitsAtMost.andThen {s t u : State} (h : CommitsAtMost s t) (k : RecordsKept t u) :
    CommitsAtMost s u := by
  obtain ⟨hlegal, hactive⟩ := h
  exact ⟨k.2 ∘ hlegal, by rw [k.1]; exact hactive⟩

/-- What comes before may leave the records alone. -/
theorem CommitsAtMost.behind {s t u : State} (h : SameRecords s t) (k : CommitsAtMost t u) :
    CommitsAtMost s u := by
  obtain ⟨hlegal, hactive⟩ := k
  rw [h.1] at hactive
  exact ⟨hlegal ∘ h.kept.2, hactive⟩

section Acts
variable {α : Type} (π : α → State)

/-- The act leaves the records of its state, which `π` names. -/
def Silent (act : α → α) : Prop := ∀ x, SameRecords (π x) (π (act x))

/-- The act keeps the records. -/
def Keeping (act : α → α) : Prop := ∀ x, RecordsKept (π x) (π (act x))

/-- The act commits and then keeps the records. -/
def Committing (act : α → α) : Prop := ∀ x, RecordsKept (applyCommit (π x)) (π (act x))

/-- The acts hold at most one commit, and one only where `s` has the edit CLOSED and a commit requested;
nothing before it touches the records. -/
def CommitOnce (s : State) (acts : List (α → α)) : Prop :=
  (∀ act ∈ acts, Keeping π act) ∨
  s.ct.editOpen = false ∧ s.ct.request.isSome = true ∧
    ∃ before commit after, acts = before ++ commit :: after ∧ (∀ act ∈ before, Silent π act) ∧
      Committing π commit ∧ ∀ act ∈ after, Keeping π act

variable {π}

theorem Silent.keeping {act : α → α} (h : Silent π act) : Keeping π act := fun x => (h x).kept

theorem Keeping.runActs {acts : List (α → α)} (h : ∀ act ∈ acts, Keeping π act) (a : α) :
    RecordsKept (π a) (π (runActs acts a)) :=
  runActs_induct (P := fun x => RecordsKept (π a) (π x)) (fun act ha x hx => hx.trans (h act ha x))
    (.refl _)

theorem Silent.runActs {acts : List (α → α)} (h : ∀ act ∈ acts, Silent π act) (a : α) :
    SameRecords (π a) (π (runActs acts a)) :=
  runActs_induct (P := fun x => SameRecords (π a) (π x))
    (fun act ha x hx => ⟨(h act ha x).1.trans hx.1, (h act ha x).2.trans hx.2⟩) ⟨rfl, rfl⟩

/-- A commit makes the pending bank the active one. -/
theorem applyCommit_commitsAtMost {s : State} (hedit : s.ct.editOpen = false)
    (hrequest : s.ct.request.isSome = true) : CommitsAtMost s (applyCommit s) := by
  refine ⟨fun h => ?_, .inr ⟨hedit, hrequest, rfl⟩⟩
  obtain ⟨hpending, -, hfences⟩ := h
  exact ⟨hpending, hpending, hfences⟩

/-- Acts with at most one commit commit at most once. -/
theorem CommitOnce.runActs {s : State} {acts : List (α → α)} (h : CommitOnce π s acts) {a : α}
    (ha : SameRecords s (π a)) : CommitsAtMost s (π (runActs acts a)) := by
  obtain hkeep | ⟨hedit, hrequest, before, commit, after, rfl, hbefore, hcommit, hafter⟩ := h
  · exact .behind ha (Keeping.runActs hkeep a).commitsAtMost
  · rw [runActs_append, runActs_cons]
    have hstill := Silent.runActs hbefore a
    have hct := hstill.1.trans ha.1
    refine .behind ha (.behind hstill (.andThen (.andThen ?_ (hcommit _)) (Keeping.runActs hafter _)))
    exact applyCommit_commitsAtMost (by rw [hct]; exact hedit) (by rw [hct]; exact hrequest)

/-- Silent acts may come before. -/
theorem CommitOnce.behind {s : State} {xs ys : List (α → α)} (hxs : ∀ act ∈ xs, Silent π act)
    (h : CommitOnce π s ys) : CommitOnce π s (xs ++ ys) := by
  obtain hkeep | ⟨hedit, hrequest, before, commit, after, rfl, hbefore, hcommit, hafter⟩ := h
  · exact .inl (List.forall_mem_append.2 ⟨fun act ha => (hxs act ha).keeping, hkeep⟩)
  · exact .inr ⟨hedit, hrequest, xs ++ before, commit, after, by simp,
      List.forall_mem_append.2 ⟨hxs, hbefore⟩, hcommit, hafter⟩

theorem CommitOnce.cons {s : State} {act : α → α} {acts : List (α → α)} (hact : Silent π act)
    (h : CommitOnce π s acts) : CommitOnce π s (act :: acts) :=
  .behind (xs := [act]) (by simpa using hact) h

/-- Acts that keep the records keep them among silent ones. -/
theorem Keeping.interleave {xs ys : List (α → α)} (hxs : ∀ act ∈ xs, Keeping π act)
    (hys : ∀ act ∈ ys, Silent π act) (fuel n : Nat) :
    ∀ act ∈ Machine.interleave fuel n xs ys, Keeping π act := by
  intro act hact
  rw [(interleave_spec fuel n xs ys).1.mem_iff, List.mem_append] at hact
  exact hact.elim (hxs act) fun hact => (hys act hact).keeping

/-- Silent acts of another block may fall anywhere among them. -/
theorem CommitOnce.interleave {s : State} {ys : List (α → α)} (hys : ∀ act ∈ ys, Silent π act)
    (fuel n : Nat) {xs : List (α → α)} (h : CommitOnce π s xs) :
    CommitOnce π s (Machine.interleave fuel n xs ys) := by
  obtain hkeep | ⟨hedit, hrequest, before, commit, after, rfl, hbefore, hcommit, hafter⟩ := h
  · exact .inl (Keeping.interleave hkeep hys fuel n)
  induction fuel generalizing n before ys with
  | zero =>
    refine .inr ⟨hedit, hrequest, before, commit, after ++ ys, by simp [Machine.interleave],
      hbefore, hcommit, List.forall_mem_append.2 ⟨hafter, fun act ha => (hys act ha).keeping⟩⟩
  | succ fuel ih =>
    cases ys with
    | nil =>
      refine .inr ⟨hedit, hrequest, before, commit, after, ?_, hbefore, hcommit, hafter⟩
      cases before <;> rfl
    | cons y ys =>
      obtain ⟨hy, hys'⟩ := List.forall_mem_cons.1 hys
      have hother := ih hys' (n + 1) before hbefore
      cases before with
      | nil =>
        simp only [List.nil_append, Machine.interleave] at hother ⊢
        split_ifs
        · exact .inr ⟨hedit, hrequest, [], commit, _, rfl, by simp, hcommit,
            Keeping.interleave hafter hys _ _⟩
        · exact hother.cons hy
      | cons x before =>
        obtain ⟨hx, hbefore'⟩ := List.forall_mem_cons.1 hbefore
        have hown := ih hys (n + 1) before hbefore'
        simp only [List.cons_append, Machine.interleave] at hother hown ⊢
        split_ifs
        · exact hown.cons hx
        · exact hother.cons hy

theorem CommitOnce.interleaved {s t : State} {xs ys : List (α → α)} (h : CommitOnce π s xs)
    (hys : ∀ act ∈ ys, Silent π act) : CommitOnce π s (interleaved xs ys t).1 := by
  simp only [Machine.interleaved]
  split_ifs with hempty
  · simpa [Machine.interleave] using CommitOnce.interleave hys 0 0 h
  · exact CommitOnce.interleave hys _ _ h

end Acts

/-- Acts on the state are acts beside the assembly of a line. -/
theorem CommitOnce.beside {s : State} {acts : List (State → State)} (h : CommitOnce id s acts) :
    CommitOnce (fun x : State × Assembly => x.1) s (acts.map fun act => Prod.map act id) := by
  obtain hkeep | ⟨hedit, hrequest, before, commit, after, rfl, hbefore, hcommit, hafter⟩ := h
  · refine .inl fun act hact => ?_
    obtain ⟨e, he, rfl⟩ := List.mem_map.1 hact
    exact fun x => hkeep e he x.1
  · refine .inr ⟨hedit, hrequest, before.map fun act => Prod.map act id, Prod.map commit id,
      after.map fun act => Prod.map act id, by simp, ?_, fun x => hcommit x.1, ?_⟩
    · intro act hact
      obtain ⟨e, he, rfl⟩ := List.mem_map.1 hact
      exact fun x => hbefore e he x.1
    · intro act hact
      obtain ⟨e, he, rfl⟩ := List.mem_map.1 hact
      exact fun x => hafter e he x.1

/-! ### The acts of a line start -/

theorem commitNow_committing : Committing id commitNow := fun s => by
  have hready : SameRecords (applyCommit s) (setReady (clearMonitors
      (changedRegions s.ct.activeSet s.ct.pendingSet) (applyCommit s))) := by simp [SameRecords]
  exact hready.kept.trans (takeCommitApplied_recordsKept _)

/-- An activation event commits at most once (R30). -/
theorem activationActs_commitOnce (s : State) : CommitOnce id s (activationActs s) := by
  have hready : ∀ x, SameRecords x (setReady x) := fun x => by simp [SameRecords]
  unfold activationActs
  split_ifs with hedit hrequest
  · refine .inl fun act hact => ?_
    rw [List.mem_singleton.1 hact]
    exact fun x => (countEdit_recordsKept x).trans (hready _).kept
  · exact .inr ⟨by simpa using hedit, hrequest, [], commitNow, settleActs s, rfl, by simp,
      commitNow_committing, settleActs_recordsKept s⟩
  · refine .inl fun act hact => ?_
    rw [List.mem_singleton.1 hact]
    exact fun x => (hready x).kept

theorem dueFrameEndActs_silent (s : State) : ∀ act ∈ dueFrameEndActs s, Silent id act :=
  fun act h x => by simp [SameRecords, dueFrameEndActs_each s act h x]

theorem endParseActs_silent (s : State) : ∀ act ∈ endParseActs s, Silent id act :=
  fun act h x => by simp [SameRecords, endParseActs_each s act h x]

theorem dropActs_silent (l : Option InputLine) : ∀ act ∈ dropActs l, Silent id act :=
  fun act h x => by simp [SameRecords, dropActs_each l act h x]

theorem offerLock_silent (a b : LockState) (c : LockCause) : Silent id (offerLock a b c) :=
  fun x => by simp [SameRecords]

theorem dueActivationActs_commitOnce (s : State) : CommitOnce id s (dueActivationActs s) := by
  unfold dueActivationActs
  split_ifs
  · exact .inl (by simp)
  · exact (activationActs_commitOnce s).cons fun x => ⟨rfl, rfl⟩

/-- The events of a line start commit at most once, whatever the order of what else happens. -/
theorem lineEventActs_commitOnce (activation : Bool) {others : List (State → State)} (s : State)
    (h : ∀ act ∈ others, Silent id act) :
    CommitOnce id s (lineEventActs activation others s).1 := by
  refine CommitOnce.interleaved (.behind (dueFrameEndActs_silent s) ?_) h
  split_ifs
  · exact dueActivationActs_commitOnce s
  · exact .inl (by simp)

/-! ### Output lines -/

theorem lineEvents_commitsAtMost (activation : Bool) {others : List (State → State)} (s : State)
    (h : ∀ act ∈ others, Silent id act) : CommitsAtMost s (lineEvents activation others s) :=
  (lineEventActs_commitOnce activation s h).runActs (a := (lineEventActs activation others s).2)
    (by simp [SameRecords])

/-- An assembly commits nothing beyond what its events commit. -/
theorem assembleAmong_commitsAtMost {s t : State} {events : List (State → State)} (words : Nat)
    (forward : List Packet) (h : CommitOnce id s events) (hst : SameRecords s t) :
    CommitsAtMost s (assembleAmong events words forward t).1 := by
  simp only [assembleAmong]
  refine CommitOnce.runActs (π := fun x : State × Assembly => x.1)
    (h.beside.interleaved fun act hact x => ?_) ?_
  · simp [SameRecords, assemblyActs_each _ act hact x]
  · exact ⟨(interleaved_keeps _ _ t).2.2.2.1.trans hst.1, by
      rw [(interleaved_keeps _ _ t).2.2.2.2.2.2.2.2.1]; exact hst.2⟩

theorem mgmtLine_commitsAtMost (frameStart : Bool) (words : Nat) (forward : List Packet)
    (activation : Bool) {others : List (State → State)} (s : State)
    (h : ∀ act ∈ others, Silent id act) :
    CommitsAtMost s (mgmtLine frameStart words forward activation others s) := by
  have hsend : ∀ k f w x, RecordsKept x (sendPixels k f w x) := fun k f w x =>
    SameRecords.kept (by simp [SameRecords])
  have hdrawn : SameRecords s (lineEventActs activation others s).2 := by simp [SameRecords]
  exact (assembleAmong_commitsAtMost words forward (lineEventActs_commitOnce activation s h)
    hdrawn).andThen (hsend ..)

theorem activeLine_sameRecords (frameStart : Bool) (starts : List Pixel) (s : State) :
    SameRecords s (activeLine frameStart starts s) := by
  simp [SameRecords, activeLine]

theorem outputLineStart_commitsAtMost (kind : LineKind) (frameStart : Bool) (starts : List Pixel)
    (forward : List Packet) (activation : Bool) {others : List (State → State)} (s : State)
    (h : ∀ act ∈ others, Silent id act) :
    CommitsAtMost s (outputLineStart kind frameStart starts forward activation others s) := by
  cases kind with
  | active =>
    exact .behind (Silent.runActs h s) (activeLine_sameRecords _ _ _).commitsAtMost
  | mgmt => exact mgmtLine_commitsAtMost _ _ _ _ s h
  | blank =>
    exact (lineEvents_commitsAtMost activation s h).andThen
      (SameRecords.kept (by simp [SameRecords, outputLineStart]))

theorem outputFrameStart_sameRecords (inputTimed : Bool) (g : Geometry) (period startedAt : Nat)
    (s : State) : SameRecords s (outputFrameStart inputTimed g period startedAt s) := by
  simp only [SameRecords, outputFrameStart]; split_ifs <;> simp

theorem internalLine_commitsAtMost (i : Nat) {others : List (State → State)} (s : State)
    (h : ∀ act ∈ others, Silent id act) : CommitsAtMost s (internalLine i others s) :=
  .behind (t := s.withOut { s.out with line := i }) ⟨rfl, rfl⟩
    (outputLineStart_commitsAtMost _ _ _ _ _ _ h)

theorem startInternalFrame_commitsAtMost (startedAt : Nat) {others : List (State → State)}
    (s : State) (h : ∀ act ∈ others, Silent id act) :
    CommitsAtMost s (startInternalFrame startedAt others s) := by
  simp only [startInternalFrame]
  split_ifs
  · exact .behind (t := s.withFree (s.free + 1)) ⟨rfl, rfl⟩
      (.behind (outputFrameStart_sameRecords ..) (internalLine_commitsAtMost 0 _ h))
  · exact .behind (outputFrameStart_sameRecords ..) (internalLine_commitsAtMost 0 _ h)

theorem nextInternalFrame_commitsAtMost (s : State) : CommitsAtMost s (nextInternalFrame s) := by
  have hlock : ∀ act ∈ [offerLock .holdover .freeRun .holdoverLimit], Silent id act := by
    simp only [List.mem_singleton, forall_eq]
    exact offerLock_silent _ _ _
  simp only [nextInternalFrame]
  generalize (if s.out.running = true then s.out.startedAt + s.out.period * 1000 else s.now) = begins
  split_ifs
  · refine .behind ?_ (startInternalFrame_commitsAtMost _ _ hlock)
    simp [SameRecords]
  · refine .behind ?_ (startInternalFrame_commitsAtMost _ _ (by simp))
    simp [SameRecords]
  · refine .behind ?_ (startInternalFrame_commitsAtMost _ _ (by simp))
    simp [SameRecords]

theorem paceInternal_commitsAtMost (s : State) : CommitsAtMost s (paceInternal s) := by
  simp only [paceInternal]
  split_ifs
  · exact (RecordsKept.refl s).commitsAtMost
  · exact nextInternalFrame_commitsAtMost s
  · exact .behind (by simp [SameRecords]) (internalLine_commitsAtMost _ _ (by simp))

/-! ### Departures from LOCKED -/

theorem departLocked_commitsAtMost (new : LockState) (cause : LockCause)
    {errors : List (State → State)} (s : State) (h : ∀ act ∈ errors, Silent id act) :
    CommitsAtMost s (departLocked new cause errors s) := by
  simp only [departLocked]
  refine .behind (by simp [SameRecords]) (startInternalFrame_commitsAtMost _ _ fun act hact => ?_)
  simp only [mem_interleaved, List.mem_append, List.mem_cons, List.not_mem_nil, or_false] at hact
  obtain ((hact | hact) | hact) | rfl | rfl := hact
  · exact h act hact
  · exact dropActs_silent _ act hact
  · exact dropActs_silent _ act hact
  · exact fun x => by simp [SameRecords]
  · exact offerLock_silent _ _ _

theorem expireFlywheel_commitsAtMost (due : Nat) (s : State) :
    CommitsAtMost s (expireFlywheel due s) := by
  simp only [expireFlywheel]
  split_ifs <;>
    exact .behind (by simp [SameRecords]) (departLocked_commitsAtMost _ _ _ (by simp))

/-! ### The lock state that a line start leaves -/

/-- What the effect of a checked command keeps, the command keeps. -/
theorem checked_keeps {β : Type} {f : State → β} {checks : List (Bool × Nat)}
    {effect : State → State × Result} {s : State} (h : f (effect s).1 = f s) :
    f (checked checks effect s).1 = f s := by
  unfold checked; split
  · rfl
  · exact h

theorem whileOpen_keeps {β : Type} {f : State → β} {run : State → State × Result} {s : State}
    (h : f (run s).1 = f s) : f (whileOpen run s).1 = f s := by
  unfold whileOpen; split_ifs
  · exact h
  · rfl

/-- No command executed by its block changes the lock state. -/
theorem Command.run_lock (c : Command) (p : List Byte) (s : State) :
    (c.run p s).1.rtu.lock = s.rtu.lock := by
  cases c with
  | setRegion | setPalette | setCue =>
    exact whileOpen_keeps (f := fun x => x.rtu.lock) 
      (checked_keeps (f := fun x => x.rtu.lock) rfl)
  | setNotifyMask | setTiming | readRegion | readPalette | readCue | setFence | readFence
  | readMeasure | setReport => exact checked_keeps (f := fun x => x.rtu.lock) rfl
  | editOpen => simp only [Command.run, runEditOpen]; split_ifs <;> rfl
  | editClose =>
    simp only [Command.run, runEditClose]; split_ifs
    · split <;> rfl
    · rfl
  | commit => simp only [Command.run, runCommit]; split_ifs <;> rfl
  | readInfo | readStatus | clearCounters | ovlWrite | ovlFill | ovlCopy | ovlRead => rfl

@[simp] theorem runSequenced_lock (code : Byte) (p : List Byte) (s : State) :
    (runSequenced code p s).1.rtu.lock = s.rtu.lock := by
  unfold runSequenced; split
  · rfl
  · split_ifs
    · exact Command.run_lock _ p s
    · rfl

@[simp] theorem beginNext_lock (s : State) : (beginNext s).rtu.lock = s.rtu.lock := by
  have hqueued : ∀ (q : Queued) (x : State), (beginQueued q x).rtu.lock = x.rtu.lock := by
    intro q x
    have hseq := runSequenced_lock q.code q.payload x
    have hbroadcast := runBroadcastCommit_keeps q.payload x
    unfold beginQueued
    split_ifs <;> split <;> simp_all
  unfold beginNext
  split_ifs
  · split <;> simp [hqueued]
  · rfl

/-- No act of an activation event changes the lock state. -/
theorem activationActs_lock (s : State) :
    ∀ act ∈ activationActs s, ∀ x, (act x).rtu.lock = x.rtu.lock := by
  have hcommit : ∀ x, (commitNow x).rtu.lock = x.rtu.lock := fun x => by
    simp only [commitNow, takeCommitApplied]
    split <;> simp
  unfold activationActs
  split_ifs
  · simp
  · simp only [List.mem_cons, forall_eq_or_imp, settleActs, List.mem_replicate]
    exact ⟨hcommit, fun act ⟨_, h⟩ x => by rw [h, beginNext_lock]⟩
  · simp

/-- No act of a line start changes the lock state, if no other block does. -/
theorem lineEventActs_lock (activation : Bool) {others : List (State → State)} (s : State)
    (h : ∀ act ∈ others, ∀ x, (act x).rtu.lock = x.rtu.lock) :
    ∀ act ∈ (lineEventActs activation others s).1, ∀ x, (act x).rtu.lock = x.rtu.lock := by
  intro act hact x
  simp only [lineEventActs, mem_interleaved, List.mem_append] at hact
  obtain (hact | hact) | hact := hact
  · simp [dueFrameEndActs_each s act hact x]
  · split_ifs at hact
    · unfold dueActivationActs at hact
      split_ifs at hact
      · simp at hact
      · obtain rfl | hact := List.mem_cons.1 hact
        · rfl
        · exact activationActs_lock s act hact x
    · simp at hact
  · exact h act hact x

/-- The assembly of a line does not change the lock state, if no event beside it does. -/
theorem assembleAmong_lock {events : List (State → State)} (words : Nat) (forward : List Packet)
    (s : State) (h : ∀ act ∈ events, ∀ x, (act x).rtu.lock = x.rtu.lock) :
    (assembleAmong events words forward s).1.rtu.lock = s.rtu.lock := by
  simp only [assembleAmong]
  refine Eq.trans (runActs_keeps (f := fun x : State × Assembly => x.1.rtu.lock) ?_ _)
    (by simp)
  intro act hact x
  rcases mem_interleaved.1 hact with hact | hact
  · obtain ⟨e, he, rfl⟩ := List.mem_map.1 hact
    exact h e he x.1
  · simp [assemblyActs_each _ act hact x]

theorem outputLineStart_lock (kind : LineKind) (frameStart : Bool) (starts : List Pixel)
    (forward : List Packet) (activation : Bool) {others : List (State → State)} (s : State)
    (h : ∀ act ∈ others, ∀ x, (act x).rtu.lock = x.rtu.lock) :
    (outputLineStart kind frameStart starts forward activation others s).rtu.lock = s.rtu.lock := by
  have hevents := lineEventActs_lock activation s h
  cases kind with
  | active => simpa [outputLineStart] using runActs_keeps (f := fun x : State => x.rtu.lock) h s
  | mgmt => simp [outputLineStart, mgmtLine, assembleAmong_lock _ _ _ hevents]
  | blank =>
    simpa [outputLineStart, lineEvents] using
      runActs_keeps (f := fun x : State => x.rtu.lock) hevents (lineEventActs activation others s).2

theorem startInternalFrame_lock (startedAt : Nat) {others : List (State → State)} (s : State)
    (h : ∀ act ∈ others, ∀ x, (act x).rtu.lock = x.rtu.lock) :
    (startInternalFrame startedAt others s).rtu.lock = s.rtu.lock := by
  simp only [startInternalFrame, internalLine]
  split_ifs <;> simp [outputLineStart_lock _ _ _ _ _ _ h]

/-- LOCKED is left for the state named. -/
theorem departLocked_lock (new : LockState) (cause : LockCause) {errors : List (State → State)}
    (s : State) (h : ∀ act ∈ errors, ∀ x, (act x).rtu.lock = x.rtu.lock) :
    (departLocked new cause errors s).rtu.lock = new := by
  simp only [departLocked]
  rw [startInternalFrame_lock]
  · simp [changeLock, spoilMeasurement_keeps]
  · intro act hact x
    simp only [mem_interleaved, List.mem_append, List.mem_cons, List.not_mem_nil, or_false] at hact
    obtain ((hact | hact) | hact) | rfl | rfl := hact
    · exact h act hact x
    · simp [dropActs_each _ act hact x]
    · simp [dropActs_each _ act hact x]
    · rfl
    · simp

/-! ### Input line starts -/

/-- An input frame start leaves the records, or leaves LOCKED behind a line start. -/
theorem takeFrameStart_outcome (ended : Option InputFrame) {errors : List (State → State)}
    (s : State) (h : ∀ act ∈ errors, Silent id act)
    (hlock : ∀ act ∈ errors, ∀ x, (act x).rtu.lock = x.rtu.lock) :
    SameRecords s (takeFrameStart ended errors s) ∨
    CommitsAtMost s (takeFrameStart ended errors s) ∧
      (takeFrameStart ended errors s).rtu.lock ≠ .locked := by
  have hdepart : ∀ f, CommitsAtMost s (becomeCandidate f (departLocked .acquiring .mismatch errors s)) ∧
      (becomeCandidate f (departLocked .acquiring .mismatch errors s)).rtu.lock ≠ .locked := by
    have hcandidate : ∀ f x, RecordsKept x (becomeCandidate f x) := fun f x =>
      SameRecords.kept (by simp [SameRecords])
    refine fun f => ⟨(departLocked_commitsAtMost _ _ s h).andThen (hcandidate f _), ?_⟩
    have := departLocked_lock .acquiring .mismatch s hlock
    simp [becomeCandidate, startAcquire, this]
  unfold takeFrameStart
  split
  · exact .inl (by simp [SameRecords])
  · split
    · split_ifs <;> exact .inl (by simp [SameRecords])
    · exact .inl (by simp [SameRecords])
  · split
    · split_ifs
      · exact .inl (by simp [SameRecords])
      · exact .inr (hdepart _)
    · exact .inr (hdepart _)
  · split_ifs
    · split
      · split_ifs <;> exact .inl (by simp [SameRecords])
      · exact .inl ⟨rfl, rfl⟩
    · exact .inl ⟨rfl, rfl⟩

theorem carryLine_commitsAtMost (first : Bool) (a : InputLine) (b : Option InputLine)
    {errors : List (State → State)} (s : State) (h : ∀ act ∈ errors, Silent id act) :
    CommitsAtMost s (carryLine first a b errors s) := by
  simp only [carryLine]
  refine .behind ?_ (outputLineStart_commitsAtMost _ _ _ _ _ _ h)
  split_ifs
  · exact outputFrameStart_sameRecords ..
  · exact ⟨rfl, rfl⟩

theorem followInput_commitsAtMost (a b : Option InputLine) (index : Nat)
    {errors : List (State → State)} (s : State) (h : ∀ act ∈ errors, Silent id act) :
    CommitsAtMost s (followInput a b index errors s) := by
  have herrors := (Silent.runActs h s).commitsAtMost
  unfold followInput
  split
  · split_ifs
    · exact carryLine_commitsAtMost _ _ _ s h
    · exact .behind (by simp [SameRecords]) (carryLine_commitsAtMost _ _ _ _ h)
    · exact herrors
  · exact herrors

/-- Outside LOCKED no output line follows the input. -/
theorem followInput_unlocked (a b : Option InputLine) (index : Nat) (errors : List (State → State))
    {s : State} (h : s.rtu.lock ≠ .locked) : followInput a b index errors s = runActs errors s := by
  unfold followInput
  split
  · contradiction
  · rfl

theorem sameRecords_withRtu (s : State) (r : RasterTiming) : SameRecords s (s.withRtu r) :=
  ⟨rfl, rfl⟩

theorem takeLineStart_commitsAtMost (bits : BitVec 31) (clock : Nat) (s : State) :
    CommitsAtMost s (takeLineStart bits clock s) := by
  have hended := endParseActs_silent s
  have hlock : ∀ act ∈ endParseActs s, ∀ x, (act x).rtu.lock = x.rtu.lock :=
    fun act h x => by simp [endParseActs_each s act h x]
  have hparse : ∀ k l x, RecordsKept x (beginParse k (x.withRtu l)) := fun k l x =>
    SameRecords.kept (by simp [SameRecords])
  have hbegin : SameRecords s (endLine (s.advanceTo clock)) := by simp [SameRecords]
  simp only [takeLineStart]
  generalize endLine (s.advanceTo clock) = t at hbegin ⊢
  refine .andThen ?_ (hparse _ _ _)
  have herrors : ∀ act ∈ (if ((lineOf bits).frameStart && leavesLocked t.rtu.frame t) = true
      then [] else endParseActs s), Silent id act := by
    split_ifs
    · simp
    · exact hended
  generalize (if ((lineOf bits).frameStart && leavesLocked t.rtu.frame t) = true
      then [] else endParseActs s) = errors at herrors ⊢
  refine .behind hbegin ?_
  split_ifs
  · obtain hsame | ⟨hcommit, hunlocked⟩ :=
      takeFrameStart_outcome t.rtu.frame t hended hlock
    · refine .behind ?_ (followInput_commitsAtMost _ _ _ _ herrors)
      simpa only [SameRecords, State.withRtu_ct, State.withRtu_os] using hsame
    · rw [followInput_unlocked _ _ _ _ (by simpa using hunlocked)]
      exact (hcommit.andThen (sameRecords_withRtu _ _).kept).andThen (Silent.runActs herrors _).kept
  · exact followInput_commitsAtMost _ _ _ _ herrors

end Sys2Proof.Machine
end

section
/-! Every row: what it does to the banks and the fences (R10, R30), with the two statements about them. -/

namespace Sys2Proof.Machine

/-- The rows that can start an output line, and so raise an activation event (R56). -/
def StartsLine (c : Instr) : Prop :=
  (∃ bits clock, c = .inputLineStart bits clock) ∨ c = .internalLineStart ∨
    c = .flywheelExpiry ∨ c = .holdoverLimit ∨ c = .resetRelease

/-- A row that acts only while RESET is high does nothing or has its effect. -/
theorem whileRunning_next {effect : State → State} {s t : State}
    (h : whileRunning effect s = .next t) : t = s ∨ t = effect s := by
  unfold whileRunning at h
  split_ifs at h <;> cases h <;> simp

/-- What an effect does within `R` the row does too, if `R` allows nothing to happen. -/
theorem whileRunning_rel {R : State → State → Prop} {effect : State → State} {s t : State}
    (h : whileRunning effect s = .next t) (hrefl : R s s) (heffect : R s (effect s)) : R s t := by
  rcases whileRunning_next h with rfl | rfl <;> assumption

theorem startFirstFrame_commitsAtMost (s : State) : CommitsAtMost s (startFirstFrame s) :=
  startInternalFrame_commitsAtMost _ s (by simp)

/-- POWER_ON and PIN_RESET leave legal records, the default bank active (R10, R101). -/
theorem exec_powerOn_records {s t : State} (h : exec .powerOn s = .next t) :
    RecordsLegal t ∧ t.ct.activeSet = .default := by
  cases h
  obtain ⟨hlegal, hactive⟩ := startFirstFrame_commitsAtMost (powerOnValues s)
  refine ⟨hlegal ⟨default_set_legal, default_set_legal, default_fences_legal⟩, ?_⟩
  obtain hactive | ⟨-, hrequest, -⟩ := hactive
  · exact hactive
  · simp [powerOnValues, State.reset, CompositionTable.initial] at hrequest

theorem exec_pinReset_records {s t : State} (h : exec .pinReset s = .next t) :
    RecordsLegal t ∧ t.ct.activeSet = .default := by
  cases h
  exact ⟨⟨default_set_legal, default_set_legal, default_fences_legal⟩, rfl⟩

/-- A row that starts an output line commits at most once. -/
theorem exec_commitsAtMost {c : Instr} {s t : State} (hc : StartsLine c)
    (h : exec c s = .next t) : CommitsAtMost s t := by
  have hrefl := (RecordsKept.refl s).commitsAtMost
  obtain ⟨bits, clock, rfl⟩ | rfl | rfl | rfl | rfl := hc
  · exact whileRunning_rel h hrefl (takeLineStart_commitsAtMost bits clock s)
  · exact whileRunning_rel h hrefl (paceInternal_commitsAtMost s)
  · simp only [exec, execFlywheelExpiry] at h
    split at h
    · exact whileRunning_rel h hrefl (expireFlywheel_commitsAtMost _ s)
    · cases h; exact hrefl
  · simp only [exec, execHoldoverLimit] at h
    split_ifs at h
    · exact whileRunning_rel h hrefl (nextInternalFrame_commitsAtMost s)
    · cases h; exact hrefl
  · simp only [exec, execResetRelease] at h
    split_ifs at h <;> cases h
    · exact .behind (t := s.withResetLow false) ⟨rfl, rfl⟩ (startFirstFrame_commitsAtMost _)
    · exact hrefl

/-- Every other row keeps the records. -/
theorem exec_recordsKept {c : Instr} {s t : State} (hpower : c ≠ .powerOn) (hpin : c ≠ .pinReset)
    (hc : ¬ StartsLine c) (h : exec c s = .next t) : RecordsKept s t := by
  have hrefl := RecordsKept.refl s
  cases c with
  | powerOn | pinReset => contradiction
  | resetRelease | inputLineStart | flywheelExpiry | internalLineStart | holdoverLimit =>
    exact absurd (by simp [StartsLine]) hc
  | inputPixelWord bits => exact whileRunning_rel h hrefl (takePixelWord_recordsKept bits s)
  | acquireTimerExpiry =>
    simp only [exec, execAcquireTimerExpiry] at h
    split at h
    · exact whileRunning_rel h hrefl (SameRecords.kept (by simp [SameRecords]))
    · cases h; exact hrefl
  | editExpiry =>
    simp only [exec, execEditExpiry] at h
    split_ifs at h
    · exact whileRunning_rel h hrefl (expireEdit_recordsKept s)
    · cases h; exact hrefl
  | sfBurstComplete =>
    simp only [exec, execSfBurstComplete] at h
    split at h
    · split_ifs at h; cases h
      exact SameRecords.kept (by simp [SameRecords])
    · cases h; exact hrefl
  | ceBurstComplete =>
    simp only [exec, execCeBurstComplete] at h
    split at h
    · split_ifs at h; cases h
      exact completeEngineBurst_recordsKept _ s
    · cases h; exact hrefl
  | storeChecksComplete =>
    simp only [exec, execStoreChecksComplete] at h
    split at h
    · split_ifs at h <;> cases h
      · exact hrefl
      · exact completeChecks_recordsKept _ s
    · cases h; exact hrefl
  | reportCountdown region =>
    simp only [exec, execReportCountdown] at h
    split at h
    · split_ifs at h
      · exact whileRunning_rel h hrefl (SameRecords.kept (by simp [SameRecords]))
      · cases h; exact hrefl
    · cases h; exact hrefl
  | commandBegin => exact whileRunning_rel h hrefl (settleEngine_recordsKept s)
  | broadcastCommit p =>
    simp only [exec, execBroadcastCommit] at h
    split_ifs at h <;> cases h
    · exact intakeBroadcast_recordsKept _ p s
    · exact hrefl
  | nodeReset broadcast seq p =>
    simp only [exec, execNodeReset] at h
    split_ifs at h
    · cases h; exact intakeBroadcast_recordsKept _ p s
    · cases h; exact hrefl
    · exact handOver_recordsKept h
  | storeClearingDone => cases h; exact .of_banks rfl rfl rfl
  | unknownCode | readInfo | readStatus | clearCounters | setNotifyMask | setTiming | editOpen
  | editCloseDiscard | editCloseKeep | editCloseCommit | sequencedCommit | setRegion | setPalette
  | setCue | readRegion | readPalette | readCue | ovlWrite | ovlFill | ovlCopy | ovlRead | setFence
  | readFence | readMeasure | setReport | cancel => exact handOver_recordsKept h

/-- Legal records stay legal in every step. -/
theorem exec_keeps_recordsLegal {c : Instr} {s t : State} (h : exec c s = .next t)
    (hs : RecordsLegal s) : RecordsLegal t := by
  by_cases hpower : c = .powerOn
  · subst hpower; exact (exec_powerOn_records h).1
  by_cases hpin : c = .pinReset
  · subst hpin; exact (exec_pinReset_records h).1
  by_cases hc : StartsLine c
  · exact (exec_commitsAtMost hc h).1 hs
  · exact (exec_recordsKept hpower hpin hc h).2 hs

/-- Settles O11: a step runs one row, and every row keeps the records legal. -/
theorem stepKeepsRecordsLegal : Obligations.StepKeepsRecordsLegal := by
  unfold Obligations.StepKeepsRecordsLegal
  intro s t hs h
  unfold step at h
  split at h
  · cases h; exact hs
  · exact exec_keeps_recordsLegal h hs

/-- Settles O14, by the rows: a reset, a row that starts an output line, or one that keeps the active
bank. -/
theorem activeSetChangesOnlyByCommit : Obligations.ActiveSetChangesOnlyByCommit := by
  unfold Obligations.ActiveSetChangesOnlyByCommit
  intro c s t h
  by_cases hpower : c = .powerOn
  · subst hpower; exact .inr (.inl ⟨.inl rfl, (exec_powerOn_records h).2⟩)
  by_cases hpin : c = .pinReset
  · subst hpin; exact .inr (.inl ⟨.inr rfl, (exec_pinReset_records h).2⟩)
  by_cases hc : StartsLine c
  · obtain hsame | hcommit := (exec_commitsAtMost hc h).2
    · exact .inl hsame
    · exact .inr (.inr ⟨hc, hcommit⟩)
  · exact .inl (exec_recordsKept hpower hpin hc h).1

end Sys2Proof.Machine
end

section
/-! The octets of the set and read commands: fields, records in both directions, and the answer of a row
that the engine takes at once (R196 to R198). -/

namespace Sys2Proof.Machine

/-! ### Integers on the wire -/

theorem bigEndian_cons (b : Byte) (l : List Byte) :
    bigEndian (b :: l) = b.toNat * 256 ^ l.length + bigEndian l := by
  induction l using List.reverseRecOn with
  | nil => simp [bigEndian]
  | append_singleton l c ih =>
    rw [← List.cons_append, bigEndian_concat, bigEndian_concat, ih, List.length_append,
      List.length_singleton, Nat.pow_succ]
    ring

theorem toOctets_succ (n v : Nat) :
    toOctets (n + 1) v = BitVec.ofNat 8 (v / 256 ^ n) :: toOctets n v := by
  simp only [toOctets, List.range_succ_eq_map, List.map_cons, List.map_map]
  congr 1
  refine List.map_congr_left fun i hi => ?_
  simp only [Function.comp, Nat.succ_eq_add_one]
  congr 3
  omega

@[simp] theorem toOctets_length (n v : Nat) : (toOctets n v).length = n := by simp [toOctets]

/-- An integer is read back from its octets. -/
theorem bigEndian_toOctets (n v : Nat) : bigEndian (toOctets n v) = v % 256 ^ n := by
  induction n with
  | zero => simp [toOctets, bigEndian, Nat.mod_one]
  | succ n ih =>
    rw [toOctets_succ, bigEndian_cons, toOctets_length, ih, BitVec.toNat_ofNat, Nat.pow_succ,
      Nat.add_comm, Nat.mul_comm]
    exact Nat.mod_mul.symm

/-- A field of one octet is that octet. -/
theorem fieldAt_one (p : List Byte) (o : Nat) : fieldAt p o 1 = (octetAt p o).toNat := by
  rw [fieldAt, octetAt, List.take_one, List.head?_drop, List.getD_eq_getElem?_getD]
  cases p[o]? <;> simp [bigEndian]

@[simp] theorem octet_toNat (v : Nat) : (octet v).toNat = v % 256 := BitVec.toNat_ofNat v 8

/-! ### Walking along a payload -/

theorem fieldAt_cons (b : Byte) (p : List Byte) (o n : Nat) :
    fieldAt (b :: p) (o + 1) n = fieldAt p o n := by rw [fieldAt, List.drop_succ_cons, fieldAt]

theorem octetAt_cons (b : Byte) (p : List Byte) (o : Nat) :
    octetAt (b :: p) (o + 1) = octetAt p o := by rw [octetAt, List.getD_cons_succ, octetAt]

theorem octetAt_head (b : Byte) (p : List Byte) : octetAt (b :: p) 0 = b := rfl

theorem fieldAt_past (m v : Nat) (p : List Byte) (o n : Nat) :
    fieldAt (toOctets m v ++ p) (o + m) n = fieldAt p o n := by
  rw [fieldAt, List.drop_append, List.drop_of_length_le (by simp), List.nil_append,
    toOctets_length, Nat.add_sub_cancel, fieldAt]

theorem octetAt_past (m v : Nat) (p : List Byte) (o : Nat) :
    octetAt (toOctets m v ++ p) (o + m) = octetAt p o := by
  rw [octetAt, List.getD_append_right _ _ _ _ (by simp), toOctets_length, Nat.add_sub_cancel,
    octetAt]

/-! The same for the widths that occur, so that a literal offset is seen to lie past the field. -/

theorem fieldAt_past_two (v : Nat) (p : List Byte) (o n : Nat) :
    fieldAt (toOctets 2 v ++ p) (o + 2) n = fieldAt p o n := fieldAt_past 2 v p o n
theorem fieldAt_past_three (v : Nat) (p : List Byte) (o n : Nat) :
    fieldAt (toOctets 3 v ++ p) (o + 3) n = fieldAt p o n := fieldAt_past 3 v p o n
theorem fieldAt_past_four (v : Nat) (p : List Byte) (o n : Nat) :
    fieldAt (toOctets 4 v ++ p) (o + 4) n = fieldAt p o n := fieldAt_past 4 v p o n
theorem octetAt_past_two (v : Nat) (p : List Byte) (o : Nat) :
    octetAt (toOctets 2 v ++ p) (o + 2) = octetAt p o := octetAt_past 2 v p o
theorem octetAt_past_three (v : Nat) (p : List Byte) (o : Nat) :
    octetAt (toOctets 3 v ++ p) (o + 3) = octetAt p o := octetAt_past 3 v p o
theorem octetAt_past_four (v : Nat) (p : List Byte) (o : Nat) :
    octetAt (toOctets 4 v ++ p) (o + 4) = octetAt p o := octetAt_past 4 v p o

/-- The field that a payload begins with, in the octets of an integer. -/
theorem fieldAt_front {n v : Nat} (hv : v < 256 ^ n) (p : List Byte) :
    fieldAt (toOctets n v ++ p) 0 n = v := by
  rw [fieldAt, List.drop_zero, List.take_append_of_le_length (by simp),
    List.take_of_length_le (by simp), bigEndian_toOctets, Nat.mod_eq_of_lt hv]

/-- The field that a payload begins with, in one octet. -/
theorem fieldAt_octet {v : Nat} (hv : v < 256) (p : List Byte) :
    fieldAt (octet v :: p) 0 1 = v := by
  rw [fieldAt_one, octetAt_head, octet_toNat, Nat.mod_eq_of_lt hv]

/-! ### Codes and colours -/

theorem flagCode_le (b : Bool) : flagCode b ≤ 1 := by cases b <;> decide

theorem octet_flagCode_eq_one (b : Bool) : octet (flagCode b) = 1 ↔ b = true := by
  cases b <;> decide

@[simp] theorem Source.ofCode_code (x : Source) : Source.ofCode x.code = x := by cases x <;> rfl

@[simp] theorem RegionOp.ofCode_code (x : RegionOp) : RegionOp.ofCode x.code = x := by
  cases x <;> rfl

@[simp] theorem CueAction.ofCode_code (x : CueAction) : CueAction.ofCode x.code = x := by
  cases x <;> rfl

@[simp] theorem FenceMode.ofCode_code (x : FenceMode) : FenceMode.ofCode x.code = x := by
  cases x <;> rfl

theorem Source.code_le (x : Source) : x.code ≤ 2 := by cases x <;> decide
theorem RegionOp.code_le (x : RegionOp) : x.code ≤ 5 := by cases x <;> decide
theorem CueAction.code_le (x : CueAction) : x.code ≤ 2 := by cases x <;> decide
theorem FenceMode.code_le (x : FenceMode) : x.code ≤ 2 := by cases x <;> decide

/-- A legal colour packs into 30 bits. -/
theorem Colour.packed_lt {c : Colour} (h : c.Legal) : c.packed < 1073741824 := by
  simp only [Colour.Legal] at h
  simp only [Colour.packed]
  omega

/-- A legal colour is read back from its packed form. -/
theorem colourOf_packed {c : Colour} (h : c.Legal) : colourOf c.packed = c := by
  obtain ⟨c0, c1, c2⟩ := c
  simp only [Colour.Legal] at h
  simp only [colourOf, Colour.packed, Colour.mk.injEq]
  omega

/-! ### Rows that the engine takes at once -/

/-- A command of an admitted length that its block completes is answered. -/
theorem handOver_done {s e : State} {seq code : Byte} {p d : List Byte} {st : Status} {c : Command}
    (h : Ready seq s) (hc : Command.ofCode code = some c) (hp : c.admits p.length = true)
    (hrun : c.run p (s.accepted seq) = (e.accepted seq, .done st d)) :
    handOver seq code p s = .next (e.answered seq code st d) := by
  have hcancel : code ≠ cancelCode := by rintro rfl; simp [Command.ofCode, cancelCode] at hc
  have hreset : code ≠ nodeResetCode := by rintro rfl; simp [Command.ofCode, nodeResetCode] at hc
  rw [handOver_ready h hcancel hreset]
  congr 1
  exact beginQueued_done (by simp only [runSequenced, hc, hp, if_true, hrun])

/-- With the edit OPEN a set command runs. -/
theorem whileOpen_open {run : State → State × Result} {s : State} (h : s.ct.editOpen = true) :
    whileOpen run s = run s := if_pos h

/-- With the edit CLOSED a set command is refused before any check (R11). -/
theorem whileOpen_closed {run : State → State × Result} {s : State} (h : s.ct.editOpen = false) :
    whileOpen run s = (s, .done .notOpen []) := if_neg (by simp [h])

/-- With the edit CLOSED EDIT_CLOSE is refused before its mode is looked at (R24). -/
theorem runEditClose_closed {p : List Byte} {s : State} (h : s.ct.editOpen = false) :
    runEditClose p s = (s, .done .notOpen []) := if_neg (by simp [h])

/-- Settles O30: the refusal comes before every check of the payload. -/
theorem closedEditRefuses : Obligations.ClosedEditRefuses := by
  unfold Obligations.ClosedEditRefuses
  intro s seq p hready hclosed
  have hset : ∀ run : State → State × Result,
      whileOpen run (s.accepted seq) = (s.accepted seq, .done .notOpen []) :=
    fun run => whileOpen_closed hclosed
  have hclose : ∀ mode : List Byte,
      runEditClose mode (s.accepted seq) = (s.accepted seq, .done .notOpen []) :=
    fun mode => runEditClose_closed hclosed
  refine ⟨fun hp => ?_, fun n hn hn' hp => ?_, fun hp => ?_, ?_, ?_, ?_⟩
  · exact handOver_done (c := .setRegion) hready rfl (by simp [Command.admits, hp]) (hset _)
  · refine handOver_done (c := .setPalette) hready rfl ?_ (hset _)
    simp only [Command.admits, hp, decide_eq_true_eq]
    omega
  · exact handOver_done (c := .setCue) hready rfl (by simp [Command.admits, hp]) (hset _)
  · exact handOver_done (c := .editClose) hready rfl rfl (hclose [0x00])
  · exact handOver_done (c := .editClose) hready rfl rfl (hclose [0x01])
  · exact handOver_done (c := .editClose) hready rfl rfl (hclose [0x02])

/-! ### SET_REGION -/

/-- What the fields of a SET_REGION payload hold. -/
structure RegionPayload (p : List Byte) (i : Nat) (r : Region) : Prop where
  index : fieldAt p 0 1 = i
  enable : octetAt p 1 = octet (flagCode r.enable)
  layer : fieldAt p 2 1 = r.layer
  x0 : fieldAt p 3 2 = r.x0
  y0 : fieldAt p 5 2 = r.y0
  x1 : fieldAt p 7 2 = r.x1
  y1 : fieldAt p 9 2 = r.y1
  sourceOp : fieldAt p 11 1 = r.source.code * 16 + r.op.code
  mask : fieldAt p 12 1 = r.mask.toNat
  opacity : fieldAt p 13 1 = r.opacity
  fill : fieldAt p 14 4 = r.fill.packed
  base : fieldAt p 18 3 = r.base
  pitch : fieldAt p 21 2 = r.pitch
  srcX : fieldAt p 23 2 = r.srcX
  srcY : fieldAt p 25 2 = r.srcY
  keyPresent : octetAt p 27 = octet (flagCode r.key.isSome)
  key : octetAt p 28 = r.key.getD 0
  measure : octetAt p 29 = octet (flagCode r.measure)
  threshold : fieldAt p 30 3 =
    r.threshold.elim 0 fun t => 1048576 + t.1 * 1024 + t.2
  freezeLimit : fieldAt p 33 1 = r.freezeLimit

/-- The octets of a legal region, behind an index, are such a payload. -/
theorem regionPayload_octets {i : Nat} {r : Region} (hi : i < 16) (hr : r.Legal) :
    RegionPayload (octet i :: r.octets) i r := by
  obtain ⟨hlayer, hx, hx1, hy, hy1, -, -, hopacity, hfill, hbase, -, hpitch, hsrcX, hsrcY,
    hthreshold, hfreeze, -⟩ := hr
  have hsource := r.source.code_le
  have hop := r.op.code_le
  have hpacked := Colour.packed_lt hfill
  have hmask : r.mask.toNat < 8 := r.mask.isLt
  have hword : (r.threshold.elim 0 fun t => 1048576 + t.1 * 1024 + t.2) < 256 ^ 3 := by
    cases ht : r.threshold with
    | none => simp
    | some t => have := hthreshold t ht; simp only [Option.elim]; omega
  have hoctets : octet i :: r.octets = octet i :: octet (flagCode r.enable) :: octet r.layer ::
      (toOctets 2 r.x0 ++ (toOctets 2 r.y0 ++ (toOctets 2 r.x1 ++ (toOctets 2 r.y1 ++
      octet (r.source.code * 16 + r.op.code) :: octet r.mask.toNat :: octet r.opacity ::
      (toOctets 4 r.fill.packed ++ (toOctets 3 r.base ++ (toOctets 2 r.pitch ++
      (toOctets 2 r.srcX ++ (toOctets 2 r.srcY ++
      octet (flagCode r.key.isSome) :: r.key.getD 0 :: octet (flagCode r.measure) ::
      (toOctets 3 (r.threshold.elim 0 fun t => 1048576 + t.1 * 1024 + t.2) ++
      octet r.freezeLimit :: [])))))))))) := by
    cases ht : r.threshold <;> simp [Region.octets, ht]
  rw [hoctets]
  constructor
  case index => exact fieldAt_octet (by omega) _
  all_goals simp only [fieldAt_cons, fieldAt_past_two, fieldAt_past_three, fieldAt_past_four,
    octetAt_cons, octetAt_past_two, octetAt_past_three, octetAt_past_four, octetAt_head]
  case layer | sourceOp | mask | opacity | freezeLimit => exact fieldAt_octet (by omega) _
  case threshold => exact fieldAt_front hword _
  all_goals exact fieldAt_front (by omega) _

/-- The record read from such a payload is the region. -/
theorem RegionPayload.regionAt_eq {p : List Byte} {i : Nat} {r : Region} (h : RegionPayload p i r)
    (hr : r.Legal) : regionAt p 1 = r := by
  obtain ⟨-, -, -, -, -, -, -, -, hfill, -, -, -, -, -, hthreshold, -, -⟩ := hr
  have hsource := r.source.code_le
  have hop := r.op.code_le
  have hdiv : (r.source.code * 16 + r.op.code) / 16 = r.source.code := by omega
  have hmod : (r.source.code * 16 + r.op.code) % 16 = r.op.code := by omega
  have hkey : (if octetAt p 27 = 1 then some (octetAt p 28) else none) = r.key := by
    simp only [h.keyPresent, h.key, octet_flagCode_eq_one]
    cases r.key <;> simp
  have hword : (if fieldAt p 30 3 / 1048576 = 1 then
      some (fieldAt p 30 3 / 1024 % 1024, fieldAt p 30 3 % 1024) else none) = r.threshold := by
    have hfield := h.threshold
    cases ht : r.threshold with
    | none => rw [ht] at hfield; simp [hfield]
    | some t =>
      obtain ⟨low, high⟩ := t
      have hle := hthreshold _ ht
      rw [ht] at hfield
      simp only [Option.elim] at hfield hle
      rw [if_pos (by omega)]
      congr 2 <;> omega
  simp only [regionAt, Nat.reduceAdd, h.enable, h.layer, h.x0, h.y0, h.x1, h.y1, h.sourceOp, h.mask,
    h.opacity, h.fill, h.base, h.pitch, h.srcX, h.srcY, h.measure, h.freezeLimit, hdiv, hmod, hkey,
    hword, octet_flagCode_eq_one, Source.ofCode_code, RegionOp.ofCode_code, colourOf_packed hfill,
    BitVec.ofNat_toNat, BitVec.setWidth_eq, Bool.decide_eq_true]

/-- A payload of a legal region passes every check of SET_REGION (R5, R6). -/
theorem RegionPayload.passes {p : List Byte} {i : Nat} {r : Region} (h : RegionPayload p i r)
    (hi : i < 16) (hr : r.Legal) :
    ∀ c ∈ regionRangeChecks p ++ regionWholeChecks (regionAt p 1), c.1 = true := by
  rw [h.regionAt_eq hr]
  obtain ⟨hlayer, hx, hx1, hy, hy1, hmatch, hmask, hopacity, hfill, hbase, hpitch, hpitch', hsrcX,
    hsrcY, hthreshold, -, hoverlay⟩ := hr
  have hsource := r.source.code_le
  have hop := r.op.code_le
  have hpacked := Colour.packed_lt hfill
  have hbits : r.mask.toNat < 8 := r.mask.isLt
  have hflag : ∀ b, (octet (flagCode b)).toNat ≤ 1 := by decide
  have hword : fieldAt p 30 3 / 1048576 ≤ 1 ∧ thresholdOrdered r.threshold = true := by
    rw [h.threshold]
    cases ht : r.threshold with
    | none => exact ⟨by decide, rfl⟩
    | some t =>
      have := hthreshold t ht
      simp only [Option.elim, thresholdOrdered, decide_eq_true_eq]
      omega
  refine List.forall_mem_append.2 ⟨?_, ?_⟩
  · simp only [regionRangeChecks, List.forall_mem_cons, Bool.and_eq_true, decide_eq_true_eq,
      colourLegal, h.index, h.layer, h.x0, h.y0, h.x1, h.y1, h.sourceOp, h.mask, h.opacity, h.fill,
      h.base, h.pitch, h.srcX, h.srcY, hword.1, fieldAt_one p 1, fieldAt_one p 27, fieldAt_one p 29,
      h.enable, h.keyPresent, h.measure, hflag, true_and]
    refine ⟨?_, ?_, ?_, ?_, ?_, ?_, ?_, ?_, ?_, ?_, ?_, ?_, ?_, ?_, ?_, ?_, ?_, by simp⟩ <;> omega
  · simp only [regionWholeChecks, List.forall_mem_cons, Bool.or_eq_true, Bool.not_eq_true',
      decide_eq_false_iff_not, opFitsSource_iff, hword.2]
    refine ⟨hmatch, by simpa using hmask, trivial, ?_, ?_, by simp⟩
    · by_cases ho : r.source = .overlay
      · exact .inr (decide_eq_true (hoverlay ho).1)
      · exact .inl ho
    · by_cases ho : r.source = .overlay
      · exact .inr (decide_eq_true (hoverlay ho).2)
      · exact .inl ho

end Sys2Proof.Machine
end

section
/-! The set commands store legal records whole, and the reads answer the records as held (R12 to R18,
R105). -/

namespace Sys2Proof.Machine

/-- SET_REGION of a legal record puts it at its index. -/
theorem runSetRegion_legal {s : State} {i : Nat} {r : Region} (hopen : s.ct.editOpen = true)
    (hi : i < 16) (hr : r.Legal) :
    runSetRegion (octet i :: r.octets) s = (putRegion i r s, .ok) := by
  have hp := regionPayload_octets hi hr
  rw [runSetRegion, whileOpen_open hopen, checked_pass (hp.passes hi hr), hp.index,
    hp.regionAt_eq hr]

/-- SET_REGION is refused at an offset of its payload, or puts a legal record at an index 0..15. -/
theorem runSetRegion_cases (p : List Byte) :
    (∃ o < 34, ∀ s : State, s.ct.editOpen = true → runSetRegion p s = (s, .badField o)) ∨
    ∃ r : Region, r.Legal ∧ fieldAt p 0 1 < 16 ∧ ∀ s : State, s.ct.editOpen = true →
      runSetRegion p s = (putRegion (fieldAt p 0 1) r s, .ok) := by
  obtain ⟨o, ho, hrun⟩ | ⟨hpass, hrun⟩ := checked_cases
    (regionRangeChecks p ++ regionWholeChecks (regionAt p 1))
    fun s => (putRegion (fieldAt p 0 1) (regionAt p 1) s, .ok)
  · refine .inl ⟨o, ?_, fun s hs => (whileOpen_open hs).trans (hrun s)⟩
    simp only [regionRangeChecks, regionWholeChecks, List.cons_append, List.nil_append,
      List.map_cons, List.map_nil, List.mem_cons, List.not_mem_nil, or_false] at ho
    omega
  · obtain ⟨hlegal, hindex⟩ := regionAt_legal hpass
    exact .inr ⟨regionAt p 1, hlegal, by omega, fun s hs => (whileOpen_open hs).trans (hrun s)⟩

/-- Settles O31: a legal record passes every check and is read back whole; what passes every check is
legal. -/
theorem setRegionStoresWholeRecord : Obligations.SetRegionStoresWholeRecord := by
  unfold Obligations.SetRegionStoresWholeRecord
  refine ⟨fun s seq i r hready hopen hi hr => ?_, fun s seq p hready hopen hp => ?_⟩
  · exact handOver_done (c := .setRegion) hready rfl (by simp [Command.admits, Region.octets])
      (runSetRegion_legal (s := s.accepted seq) hopen hi hr)
  · have hadmits : Command.setRegion.admits p.length = true := by simp [Command.admits, hp]
    obtain ⟨o, ho, hrun⟩ | ⟨r, hr, hi, hrun⟩ := runSetRegion_cases p
    · exact .inl ⟨octet o, by rw [octet_toNat]; omega, handOver_done (c := .setRegion) (e := s)
        hready rfl hadmits (hrun (s.accepted seq) hopen)⟩
    · exact .inr ⟨r, hr, hi, handOver_done (c := .setRegion) hready rfl hadmits
        (hrun (s.accepted seq) hopen)⟩

/-! ### SET_CUE and SET_FENCE -/

/-- What the fields of a SET_CUE payload hold. -/
structure CuePayload (p : List Byte) (i : Nat) (c : Cue) : Prop where
  index : fieldAt p 0 1 = i
  enable : octetAt p 1 = octet (flagCode c.enable)
  action : fieldAt p 2 1 = c.action.code
  line : fieldAt p 3 2 = c.line
  regions : fieldAt p 5 2 = c.regions.toNat

/-- The octets of a legal cue, behind an index, are such a payload. -/
theorem cuePayload_octets {i : Nat} {c : Cue} (hi : i < 8) (hc : c.Legal) :
    CuePayload (octet i :: c.octets) i c := by
  have hoctets : octet i :: c.octets = octet i :: octet (flagCode c.enable) ::
      octet c.action.code :: (toOctets 2 c.line ++ (toOctets 2 c.regions.toNat ++ [])) := by
    simp [Cue.octets]
  have hline : c.line ≤ 4095 := hc
  have haction := c.action.code_le
  have hregions : c.regions.toNat < 256 ^ 2 := c.regions.isLt
  rw [hoctets]
  constructor
  case index => exact fieldAt_octet (by omega) _
  all_goals simp only [fieldAt_cons, fieldAt_past_two, octetAt_cons, octetAt_head]
  case action => exact fieldAt_octet (by omega) _
  all_goals exact fieldAt_front (by omega) _

/-- SET_CUE of a legal record puts it at its index. -/
theorem runSetCue_legal {s : State} {i : Nat} {c : Cue} (hopen : s.ct.editOpen = true) (hi : i < 8)
    (hc : c.Legal) : runSetCue (octet i :: c.octets) s =
      (s.withCt { s.ct with pendingSet :=
        { s.ct.pendingSet with cues := s.ct.pendingSet.cues.set i c } }, .ok) := by
  have hp := cuePayload_octets hi hc
  generalize octet i :: c.octets = p at hp
  have hcue : cueAt p 1 = c := by
    simp only [cueAt, Nat.reduceAdd, hp.enable, hp.action, hp.line, hp.regions,
      octet_flagCode_eq_one, CueAction.ofCode_code, BitVec.ofNat_toNat, BitVec.setWidth_eq,
      Bool.decide_eq_true]
  have hpass : ∀ c ∈ cueChecks p, c.1 = true := by
    have hflag := flagCode_le c.enable
    simp only [cueChecks, List.forall_mem_cons, hp.index, fieldAt_one p 1, hp.enable, hp.action,
      hp.line, octet_toNat, decide_eq_true_eq]
    exact ⟨by omega, by omega, c.action.code_le, hc, by simp⟩
  rw [runSetCue, whileOpen_open hopen, checked_pass hpass, hp.index, hcue]

/-- What the fields of a SET_FENCE payload hold. -/
structure FencePayload (p : List Byte) (i : Nat) (f : Fence) : Prop where
  index : fieldAt p 0 1 = i
  mode : fieldAt p 1 1 = f.mode.code
  base : fieldAt p 2 3 = f.base
  pitch : fieldAt p 5 2 = f.pitch
  fx0 : fieldAt p 7 2 = f.fx0
  fx1 : fieldAt p 9 2 = f.fx1
  fy0 : fieldAt p 11 2 = f.fy0
  fy1 : fieldAt p 13 2 = f.fy1

/-- The octets of a legal fence, behind an index, are such a payload. -/
theorem fencePayload_octets {i : Nat} {f : Fence} (hi : i < 4) (hf : f.Legal) :
    FencePayload (octet i :: f.octets) i f := by
  have hoctets : octet i :: f.octets = octet i :: octet f.mode.code :: (toOctets 3 f.base ++
      (toOctets 2 f.pitch ++ (toOctets 2 f.fx0 ++ (toOctets 2 f.fx1 ++ (toOctets 2 f.fy0 ++
      (toOctets 2 f.fy1 ++ [])))))) := by
    simp [Fence.octets]
  have hmode := f.mode.code_le
  obtain ⟨hbase, -, hpitch, hx, hx1, hy, hy1⟩ := hf
  rw [hoctets]
  constructor
  case index => exact fieldAt_octet (by omega) _
  all_goals simp only [fieldAt_cons, fieldAt_past_two, fieldAt_past_three]
  case mode => exact fieldAt_octet (by omega) _
  all_goals exact fieldAt_front (by omega) _

/-- SET_FENCE of a legal record puts it at its index. -/
theorem runSetFence_legal {s : State} {i : Nat} {f : Fence} (hi : i < 4) (hf : f.Legal) :
    runSetFence (octet i :: f.octets) s =
      (s.withOs { s.os with fences := s.os.fences.set i f }, .ok) := by
  have hp := fencePayload_octets hi hf
  generalize octet i :: f.octets = p at hp
  have hfence : fenceAt p 1 = f := by
    simp only [fenceAt, Nat.reduceAdd, hp.mode, hp.base, hp.pitch, hp.fx0, hp.fx1, hp.fy0, hp.fy1,
      FenceMode.ofCode_code]
  have hpass : ∀ c ∈ fenceChecks p, c.1 = true := by
    have hmode := f.mode.code_le
    obtain ⟨hbase, hpitch, hpitch', hx, hx1, hy, hy1⟩ := hf
    simp only [fenceChecks, hfence, List.forall_mem_cons, hp.index, hp.mode, Bool.and_eq_true,
      decide_eq_true_eq]
    exact ⟨by omega, hmode, hbase, ⟨hpitch, hpitch'⟩, by omega, hx1, by omega, hy1, hx, hy, by simp⟩
  rw [runSetFence, checked_pass hpass, hp.index, hfence]

/-- Settles O33. -/
theorem setCueAndFenceStoreRecord : Obligations.SetCueAndFenceStoreRecord := by
  unfold Obligations.SetCueAndFenceStoreRecord
  refine fun s seq i hready => ⟨fun c hopen hi hc => ?_, fun f hi hf => ?_⟩
  · exact handOver_done (c := .setCue) hready rfl (by simp [Command.admits, Cue.octets])
      (runSetCue_legal (s := s.accepted seq) hopen hi hc)
  · exact handOver_done (c := .setFence) hready rfl (by simp [Command.admits, Fence.octets])
      (runSetFence_legal (s := s.accepted seq) hi hf)

/-! ### SET_PALETTE -/

@[simp] theorem PaletteEntry.octets_length (e : PaletteEntry) : e.octets.length = 5 := by
  simp [PaletteEntry.octets]

theorem entries_length (es : List PaletteEntry) :
    (es.flatMap PaletteEntry.octets).length = 5 * es.length := by
  induction es with
  | nil => rfl
  | cons e es ih => simp only [List.flatMap_cons, List.length_append, ih,
      PaletteEntry.octets_length, List.length_cons]; omega

/-- A field behind whole entries is a field of the entries that follow. -/
theorem fieldAt_entries (es : List PaletteEntry) (k o n : Nat) (hk : k ≤ es.length) :
    fieldAt (es.flatMap PaletteEntry.octets) (o + 5 * k) n =
      fieldAt ((es.drop k).flatMap PaletteEntry.octets) o n := by
  induction k generalizing es with
  | zero => rfl
  | succ k ih =>
    cases es with
    | nil => simp at hk
    | cons e es =>
      have hoffset : o + 5 * (k + 1) = (((o + 5 * k) + 1) + 4) := by omega
      rw [List.drop_succ_cons, ← ih es (by simpa using hk), hoffset, List.flatMap_cons,
        PaletteEntry.octets, List.append_assoc, fieldAt_past_four, List.singleton_append,
        fieldAt_cons]

/-- The entry that a run of legal entries carries at a place. -/
theorem fields_of_entries {es : List PaletteEntry} (hes : ∀ e ∈ es, e.Legal) {k : Nat}
    (hk : k < es.length) (a b : Byte) :
    fieldAt (a :: b :: es.flatMap PaletteEntry.octets) (2 + 5 * k) 4 = es[k].colour.packed ∧
    fieldAt (a :: b :: es.flatMap PaletteEntry.octets) (6 + 5 * k) 1 = es[k].opacity := by
  obtain ⟨hcolour, hopacity⟩ := hes es[k] (List.getElem_mem hk)
  have hpacked := Colour.packed_lt hcolour
  have hfirst : 2 + 5 * k = ((0 + 5 * k) + 1) + 1 := by omega
  have hsecond : 6 + 5 * k = ((4 + 5 * k) + 1) + 1 := by omega
  rw [hfirst, hsecond]
  simp only [fieldAt_cons]
  rw [fieldAt_entries es k 0 4 (by omega), fieldAt_entries es k 4 1 (by omega),
    List.drop_eq_getElem_cons hk, List.flatMap_cons, PaletteEntry.octets, List.append_assoc]
  exact ⟨fieldAt_front (by omega) _, (fieldAt_past_four _ _ 0 1).trans (fieldAt_octet (by omega) _)⟩

/-- What the palette holds at each index after a run was put in. -/
theorem putEntries_getElem? (p : List Byte) (first n : Nat) (palette : List PaletteEntry) (j : Nat) :
    (putEntries p first n palette)[j]? =
      if first ≤ j ∧ j < first + n ∧ j < palette.length
      then some (paletteEntryAt p (2 + 5 * (j - first))) else palette[j]? := by
  induction n with
  | zero => rw [if_neg (by omega)]; rfl
  | succ n ih =>
    rw [putEntries, List.getElem?_set, putEntries_length, ih]
    by_cases hj : first + n = j
    · subst hj
      by_cases hlen : first + n < palette.length
      · rw [if_pos rfl, if_pos hlen, if_pos ⟨by omega, by omega, hlen⟩, Nat.add_sub_cancel_left]
      · rw [if_pos rfl, if_neg hlen, if_neg (by omega), List.getElem?_eq_none (by omega)]
    · rw [if_neg hj]
      congr 1
      simp only [eq_iff_iff]
      omega

/-- A run that carries `es` replaces as many entries and keeps the rest (R13). -/
theorem putEntries_eq {p : List Byte} {first : Nat} {es palette : List PaletteEntry}
    (hes : ∀ k, (hk : k < es.length) → paletteEntryAt p (2 + 5 * k) = es[k])
    (hfit : first + es.length ≤ palette.length) :
    putEntries p first es.length palette =
      palette.take first ++ es ++ palette.drop (first + es.length) := by
  refine List.ext_getElem? fun j => ?_
  rw [putEntries_getElem?, List.append_assoc, List.getElem?_append, List.getElem?_append,
    List.length_take, Nat.min_eq_left (by omega)]
  by_cases hbefore : j < first
  · rw [if_neg (by omega), if_pos hbefore, List.getElem?_take_of_lt hbefore]
  by_cases hrun : j < first + es.length
  · have hk : j - first < es.length := by omega
    rw [if_pos (by omega), if_neg hbefore, if_pos hk, hes _ hk, List.getElem?_eq_getElem hk]
  · rw [if_neg (by omega), if_neg hbefore, if_neg (by omega), List.getElem?_drop]
    congr 1
    omega

/-- SET_PALETTE of a run of legal entries replaces as many and keeps the rest. -/
theorem runSetPalette_legal {s : State} {first : Nat} {es : List PaletteEntry}
    (hopen : s.ct.editOpen = true) (hone : 1 ≤ es.length) (hmost : es.length ≤ 32)
    (hfit : first + es.length ≤ 256) (hes : ∀ e ∈ es, e.Legal)
    (hlen : s.ct.pendingSet.palette.length = 256) :
    runSetPalette (octet first :: octet es.length :: es.flatMap PaletteEntry.octets) s =
      (s.withCt { s.ct with pendingSet := { s.ct.pendingSet with
        palette := s.ct.pendingSet.palette.take first ++ es
          ++ s.ct.pendingSet.palette.drop (first + es.length) } }, .ok) := by
  have hn : ((octet first :: octet es.length :: es.flatMap PaletteEntry.octets).length - 2) / 5
      = es.length := by
    simp only [List.length_cons, entries_length]
    omega
  have hfields := fun k (hk : k < es.length) =>
    fields_of_entries hes hk (octet first) (octet es.length)
  generalize hp : octet first :: octet es.length :: es.flatMap PaletteEntry.octets = p at hn hfields
  have hindex : fieldAt p 0 1 = first := by subst hp; exact fieldAt_octet (by omega) _
  have hcount : fieldAt p 1 1 = es.length := by
    subst hp; rw [fieldAt_cons]; exact fieldAt_octet (by omega) _
  have hentry : ∀ k, (hk : k < es.length) → paletteEntryAt p (2 + 5 * k) = es[k] := by
    intro k hk
    obtain ⟨hcolour, hopacity⟩ := hfields k hk
    have hoffset : 2 + 5 * k + 4 = 6 + 5 * k := by omega
    rw [paletteEntryAt, hoffset, hcolour, hopacity,
      colourOf_packed (hes _ (List.getElem_mem hk)).1]
  have hpass : ∀ c ∈ paletteChecks p es.length, c.1 = true := by
    refine List.forall_mem_append.2 ⟨?_, fun c hc => ?_⟩
    · simp only [List.forall_mem_cons, hindex, hcount, decide_eq_true_eq]
      exact ⟨trivial, hfit, by simp⟩
    · obtain ⟨k, hk, hc⟩ := List.mem_flatMap.1 hc
      have hk := List.mem_range.1 hk
      obtain ⟨hcolour, hopacity⟩ := hfields k hk
      obtain ⟨hlegal, hopaque⟩ := hes _ (List.getElem_mem hk)
      simp only [paletteEntryChecks, hcolour, hopacity, List.mem_cons, List.not_mem_nil,
        or_false] at hc
      obtain rfl | rfl := hc
      · exact decide_eq_true (Colour.packed_lt hlegal)
      · exact decide_eq_true hopaque
  simp only [runSetPalette, hn]
  rw [whileOpen_open hopen, checked_pass hpass, hindex, putEntries_eq hentry (by omega)]

/-- Settles O32. -/
theorem setPaletteStoresRun : Obligations.SetPaletteStoresRun := by
  unfold Obligations.SetPaletteStoresRun
  intro s seq first es hready hopen hone hmost hfit hes hlen
  refine handOver_done (c := .setPalette) hready rfl ?_
    (runSetPalette_legal (s := s.accepted seq) hopen hone hmost hfit hes hlen)
  simp only [Command.admits, List.length_cons, entries_length, decide_eq_true_eq]
  omega

/-! ### Reads of either bank -/

/-- The selector octet names the bank (R15). -/
theorem selector_field (active : Bool) (p : List Byte) :
    fieldAt (octet (flagCode active) :: p) 0 1 = flagCode active :=
  fieldAt_octet (by have := flagCode_le active; omega) p

theorem bankOf_selector (active : Bool) (p : List Byte) (s : State) :
    bankOf (octet (flagCode active) :: p) s =
      if active then s.ct.activeSet else s.ct.pendingSet := by
  rw [bankOf, selector_field]
  cases active <;> rfl

theorem selectorCheck_passes (active : Bool) (p : List Byte) :
    (selectorCheck (octet (flagCode active) :: p)).1 = true := by
  simp only [selectorCheck, selector_field, decide_eq_true_eq]
  exact flagCode_le active

/-- READ_REGION answers the record held (R16). -/
theorem runReadRegion_held {s : State} {active : Bool} {i : Nat} {r : Region} (hi : i < 16)
    (hr : (if active then s.ct.activeSet else s.ct.pendingSet).regions[i]? = some r) :
    runReadRegion [octet (flagCode active), octet i] s = (s, .done .ok r.octets) := by
  have hindex : fieldAt [octet (flagCode active), octet i] 1 1 = i := by
    rw [fieldAt_cons]; exact fieldAt_octet (by omega) _
  rw [runReadRegion, checked_pass, bankOf_selector, hindex, CompositionSet.region,
    List.getD_eq_getElem?_getD, hr, Option.getD_some]
  simp only [List.forall_mem_cons, hindex, decide_eq_true_eq]
  exact ⟨selectorCheck_passes _ _, by omega, by simp⟩

/-- READ_CUE answers the record held (R18). -/
theorem runReadCue_held {s : State} {active : Bool} {i : Nat} {c : Cue} (hi : i < 8)
    (hc : (if active then s.ct.activeSet else s.ct.pendingSet).cues[i]? = some c) :
    runReadCue [octet (flagCode active), octet i] s = (s, .done .ok c.octets) := by
  have hindex : fieldAt [octet (flagCode active), octet i] 1 1 = i := by
    rw [fieldAt_cons]; exact fieldAt_octet (by omega) _
  rw [runReadCue, checked_pass, bankOf_selector, hindex, CompositionSet.cue,
    List.getD_eq_getElem?_getD, hc, Option.getD_some]
  simp only [List.forall_mem_cons, hindex, decide_eq_true_eq]
  exact ⟨selectorCheck_passes _ _, by omega, by simp⟩

/-- The entries from an index up are a stretch of the palette. -/
theorem entries_eq_stretch {bank : CompositionSet} {first n : Nat}
    (h : first + n ≤ bank.palette.length) :
    (List.range n).map (fun k => bank.entry (first + k)) = (bank.palette.drop first).take n := by
  refine List.ext_getElem (by simp; omega) fun k hk _ => ?_
  have hk' : k < n := by simpa using hk
  simp [CompositionSet.entry, List.getElem?_eq_getElem (show first + k < bank.palette.length by omega)]

/-- READ_PALETTE answers the entries held, in ascending order (R17). -/
theorem runReadPalette_held {s : State} {active : Bool} {first n : Nat} {bank : CompositionSet}
    (hbank : bank = if active then s.ct.activeSet else s.ct.pendingSet) (hone : 1 ≤ n)
    (hmost : n ≤ 32) (hfit : first + n ≤ 256) (hlen : bank.palette.length = 256) :
    runReadPalette [octet (flagCode active), octet first, octet n] s =
      (s, .done .ok (((bank.palette.drop first).take n).flatMap PaletteEntry.octets)) := by
  have hfirst : fieldAt [octet (flagCode active), octet first, octet n] 1 1 = first := by
    rw [fieldAt_cons]; exact fieldAt_octet (by omega) _
  have hcount : fieldAt [octet (flagCode active), octet first, octet n] 2 1 = n := by
    simp only [fieldAt_cons]; exact fieldAt_octet (by omega) _
  simp only [runReadPalette, hfirst, hcount]
  rw [checked_pass, bankOf_selector, ← hbank, ← entries_eq_stretch (by omega), List.flatMap_map]
  simp only [List.forall_mem_cons, Bool.and_eq_true, decide_eq_true_eq]
  exact ⟨selectorCheck_passes _ _, ⟨hone, hmost⟩, hfit, by simp⟩

/-- Settles O34. -/
theorem bankReadsAnswerRecords : Obligations.BankReadsAnswerRecords := by
  unfold Obligations.BankReadsAnswerRecords
  intro s seq active bank hready hbank hlegal
  refine ⟨fun i hi r hr => ?_, fun first n hone hmost hfit => ?_, fun i hi c hc => ?_⟩
  · exact handOver_done (c := .readRegion) hready rfl rfl
      (runReadRegion_held (s := s.accepted seq) hi (hbank ▸ hr))
  · exact handOver_done (c := .readPalette) hready rfl rfl
      (runReadPalette_held (s := s.accepted seq) hbank hone hmost hfit hlegal.2.1)
  · exact handOver_done (c := .readCue) hready rfl rfl
      (runReadCue_held (s := s.accepted seq) hi (hbank ▸ hc))

end Sys2Proof.Machine
end

section
/-! The resets: the laws in the state after reset, the first frame, and what a pin reset leaves (R10, R61,
R97, R119). -/

namespace Sys2Proof.Machine

/-! ### The state after reset -/

theorem reset_recordsLegal : RecordsLegal State.reset :=
  ⟨default_set_legal, default_set_legal, default_fences_legal⟩

/-- Settles O4: nothing waits, runs or is counted after reset, and every record is the default one. -/
theorem lawsHoldAtReset : Obligations.LawsHoldAtReset := by
  unfold Obligations.LawsHoldAtReset
  refine ⟨?store, ?capacity, ?record, ?edit, ?counter, ?timing, reset_recordsLegal, ?fence⟩
  case store => exact ⟨reset_store_wf, by simp [State.reset, OverlayStore.initial],
    reset_store_wf, reset_store_wf⟩
  case capacity => simp [CapacityLaw, State.reset, CommandEngine.initial,
    CommandEngine.sequencedResponses]
  case record => simp [RecordLaw, State.reset, OverlayStore.initial, CommandEngine.initial, ceBusy]
  case edit => simp [EditLaw, State.reset, CompositionTable.initial, CommandEngine.initial]
  case counter => simp [CounterLaw, State.reset, NotificationQueue.initial, ManagementUnit.initial,
    CommandEngine.initial, RasterTiming.initial, SpanFetcher.initial]
  case timing =>
    simp only [TimingLaw, State.reset, RasterTiming.initial, OutputRaster.initial,
      Compositor.initial]
    decide
  case fence => exact ⟨reset_store_wf, by simp [State.reset, OverlayStore.initial]⟩

/-! ### The first frame -/

/-- What the first frame finds after a reset: no frame in progress, nothing measured, fetched, waiting or
granted. -/
structure BeforeFirstFrame (s : State) : Prop where
  rtu : s.rtu = .initial
  out : s.out = .initial
  comp : s.comp = .initial
  sf : s.sf = .initial
  mon : s.mon = .initial
  sfWaiting : s.os.sfWaiting = none
  busy : s.os.busy = none

/-- Frame 1 starts with the default geometry: there is no frame to end and no fetch to stop, and nothing but
the output changes (R54, R57, R58, R61, R90). -/
theorem BeforeFirstFrame.outputFrameStart_eq {s : State} (h : BeforeFirstFrame s) (startedAt : Nat) :
    outputFrameStart false .default 16667 startedAt s =
      s.withOut { firstFrame startedAt with tx := [] } := by
  obtain ⟨pending, resetLow, now, free, ct, rtu, out, comp, sf, os, mon, mlu, ce, nq⟩ := s
  obtain ⟨cells, clearing, sfWaiting, ceWaiting, busy, op, fences⟩ := os
  obtain ⟨rfl, rfl, rfl, rfl, rfl, rfl, rfl⟩ := h
  rfl

/-- Line 0 of the first frame is BLANK and black, and raises no event (R54, R56, R57, R62). -/
theorem firstLine_eq (s : State) (startedAt : Nat) :
    internalLine 0 [] (s.withOut { firstFrame startedAt with tx := [] }) =
      s.withOut (firstFrame startedAt) := by
  have hblack : pixelWord Colour.black.pixel = 0 := by decide
  have hwords : (internalWords (s.withOut { firstFrame startedAt with tx := [] }) 0).map pixelWord =
      List.replicate 1280 0 := by
    rw [internalWords, List.map_replicate, ← hblack]
    rfl
  have hevents : ∀ x : State, x.out.activeCount = 0 → lineEvents false [] x = x := fun x hx => by
    simp [lineEvents, lineEventActs, dueFrameEndActs, frameEndDue, hx]
  have hkind : internalKind (s.withOut { firstFrame startedAt with tx := [] }).out.geometry 0 =
      .blank := rfl
  simp only [internalLine, hkind, outputLineStart, sendPixels, hwords]
  rw [show decide (0 + 1 = (s.withOut { firstFrame startedAt with tx := [] }).out.geometry.firstActive)
    = false from rfl, hevents _ rfl]
  rfl

/-- The first frame starts, and nothing but the output changes. -/
theorem BeforeFirstFrame.startFirstFrame_eq {s : State} (h : BeforeFirstFrame s) :
    startFirstFrame s = s.withOut (firstFrame s.now) := by
  have hlayout : internalLayout s = (Geometry.default, 16667) := by
    simp [internalLayout, h.rtu, RasterTiming.initial, freeRunLayout, FreeRun.default]
  have hlock : s.rtu.lock ≠ .locked := by simp [h.rtu, RasterTiming.initial]
  simp only [startFirstFrame, startInternalFrame, hlayout, if_neg hlock]
  rw [h.outputFrameStart_eq, firstLine_eq]

/-- Settles O15: after either reset the machine stands before its first frame. -/
theorem resetsStartFirstFrame : Obligations.ResetsStartFirstFrame := by
  unfold Obligations.ResetsStartFirstFrame
  refine ⟨fun s => ?_, fun s hlow hrtu hout hcomp hsf hmon hwaiting hbusy => ?_⟩
  · have hfirst : BeforeFirstFrame (powerOnValues s) := ⟨rfl, rfl, rfl, rfl, rfl, rfl, rfl⟩
    exact congrArg Host.Outcome.next hfirst.startFirstFrame_eq
  · have hfirst : BeforeFirstFrame (s.withResetLow false) :=
      ⟨hrtu, hout, hcomp, hsf, hmon, hwaiting, hbusy⟩
    simp only [exec, execResetRelease, hlow, if_true]
    exact congrArg Host.Outcome.next hfirst.startFirstFrame_eq

/-! ### A write burst cut short -/

/-- A write burst carries at most the octets of its request. -/
theorem burstData_length_le (op : StoreOp) (len : Nat) : (op.burstData len).length ≤ len := by
  unfold StoreOp.burstData
  split <;> simp

/-- A torn octet holds its old value, or the new one where the burst reaches and no fence masks. -/
def TornAt (op : StoreOp) (r : BurstRequest) (cells torn : Memory) (a : Nat) : Prop :=
  Memory.read torn a = Memory.read cells a ∨
    r.addr ≤ a ∧ a < r.addr + (op.burstData r.len).length ∧ clippedBy op.fences a = false ∧
      Memory.read torn a = (op.burstData r.len).getD (a - r.addr) 0

/-- Whichever octets a cut burst has written, each is old or new (R97, R119). -/
theorem tornCells_torn (op : StoreOp) (r : BurstRequest) (free : Nat) {cells : Memory}
    (h : Memory.Wf cells) (a : Nat) : TornAt op r cells (tornCells op r free cells) a := by
  suffices hfold : ∀ (ks : List Nat) (m : Memory), (∀ k ∈ ks, k < (op.burstData r.len).length) →
      Memory.Wf m → TornAt op r cells m a →
      TornAt op r cells (ks.foldl (fun m k =>
        if clippedBy op.fences (r.addr + k) then m
        else if Config.freeBit (free + k) then
          Memory.write m (r.addr + k) ((op.burstData r.len).getD k 0)
        else m) m) a from
    hfold _ cells (fun k hk => List.mem_range.1 hk) h (.inl rfl)
  intro ks
  induction ks with
  | nil => exact fun m _ _ htorn => htorn
  | cons k ks ih =>
    intro m hks hm htorn
    obtain ⟨hk, hks⟩ := List.forall_mem_cons.1 hks
    rw [List.foldl_cons]
    split_ifs with hclip hbit
    · exact ih m hks hm htorn
    · refine ih _ hks (Memory.write_wf hm _ _) ?_
      unfold TornAt
      rw [Memory.read_write hm]
      split_ifs with ha
      · subst ha
        exact .inr ⟨by omega, by omega, by simpa using hclip, by rw [Nat.add_sub_cancel_left]⟩
      · exact htorn
    · exact ih m hks hm htorn

/-- After a pin reset each octet of the store is the old one, or an octet of the cut burst. -/
theorem read_cellsAfterPinReset {s : State} (h : Memory.Wf s.os.cells) (a : Nat) :
    Memory.read (cellsAfterPinReset s) a = Memory.read s.os.cells a ∨
      ∃ op ∈ s.os.op, ∃ g ∈ s.os.busy, g.owner = .ce ∧ g.request.write = true ∧
        g.request.addr ≤ a ∧ a < g.request.addr + g.request.len ∧
        clippedBy op.fences a = false ∧ Memory.read (cellsAfterPinReset s) a =
          (op.burstData g.request.len).getD (a - g.request.addr) 0 := by
  unfold cellsAfterPinReset
  split
  · rename_i op r discard hop hbusy
    split_ifs with hwrite
    · obtain hold | ⟨hfrom, hto, hclip, hnew⟩ := tornCells_torn op r s.free h a
      · exact .inl hold
      · have hlen := burstData_length_le op r.len
        obtain ⟨hwrite, -⟩ := Bool.and_eq_true_iff.1 hwrite
        exact .inr ⟨op, hop, ⟨.ce, r, discard⟩, hbusy, rfl, hwrite, hfrom, by dsimp only; omega,
          hclip, hnew⟩
    · exact .inl rfl
  · exact .inl rfl

/-- Settles O16. -/
theorem pinResetLeavesDefaults : Obligations.PinResetLeavesDefaults := by
  unfold Obligations.PinResetLeavesDefaults
  exact fun s h => ⟨pinResetValues s, rfl, rfl, read_cellsAfterPinReset h⟩

end Sys2Proof.Machine
end

section
/-! The fill list and the placing of spans (R82 to R85). -/

namespace Sys2Proof.Machine

/-! ### The fill list -/

theorem Region.listed_iff {r : Region} {w t : Nat} : r.listed w t = true ↔
    r.enable = true ∧ r.source = .overlay ∧ r.y0 ≤ t ∧ t ≤ r.y1 ∧ r.x0 < w := by
  simp [Region.listed]

/-- The fill list holds the listed regions, provided that the layers are those of R2. -/
theorem mem_fillList {bank : CompositionSet} {w t i : Nat}
    (hlayers : ∀ i < 16, (bank.region i).layer ≤ 15) :
    i ∈ fillList bank w t ↔ i < 16 ∧ (bank.region i).listed w t = true := by
  simp only [fillList, List.mem_flatMap, List.mem_filter, List.mem_range, Bool.and_eq_true,
    decide_eq_true_eq]
  constructor
  · rintro ⟨k, -, hi, hlisted, -⟩
    exact ⟨hi, hlisted⟩
  · rintro ⟨hi, hlisted⟩
    have hlayer := hlayers i hi
    exact ⟨15 - (bank.region i).layer, by omega, hi, hlisted, by omega⟩

/-- The fill list goes down the layers, and up the indices within one (R83). -/
theorem fillList_sorted (bank : CompositionSet) (w t : Nat) :
    (fillList bank w t).Pairwise (fillsBefore bank) := by
  refine List.pairwise_flatMap.2 ⟨fun k _ => ?_, ?_⟩
  · refine List.Pairwise.imp_of_mem (fun {a b} ha hb hab => ?_) (List.pairwise_lt_range.filter _)
    simp only [List.mem_filter, Bool.and_eq_true, decide_eq_true_eq] at ha hb
    exact .inr ⟨by omega, hab⟩
  · refine List.Pairwise.imp_of_mem (fun {k l} _ hl hkl a ha b hb => ?_) List.pairwise_lt_range
    simp only [List.mem_filter, List.mem_range, Bool.and_eq_true, decide_eq_true_eq] at ha hb hl
    exact .inl (by omega)

theorem fillsBefore_irrefl (bank : CompositionSet) (i : Nat) : ¬ fillsBefore bank i i := by
  simp [fillsBefore]

theorem fillsBefore_asymm {bank : CompositionSet} {i k : Nat} (h : fillsBefore bank i k) :
    ¬ fillsBefore bank k i := by
  simp only [fillsBefore] at h ⊢
  omega

theorem fillList_nodup (bank : CompositionSet) (w t : Nat) : (fillList bank w t).Nodup :=
  (fillList_sorted bank w t).imp fun h => by
    rintro rfl; exact fillsBefore_irrefl bank _ h

/-! ### Placing -/

/-- The octets of the buffer that the placed spans of these regions take. -/
def taken (status : List SpanStatus) (l : List Nat) : Nat :=
  (l.map fun k => placedLength (status.getD k .none)).sum

/-- The span to fetch for a region that is placed (R84). -/
def jobOf (bank : CompositionSet) (t : Nat) (status : List SpanStatus) (i : Nat) : Option SpanJob :=
  match status.getD i .none with
  | .placed offset n => some ⟨i, offset, n, (bank.region i).spanStart t, 0⟩
  | _ => none

theorem jobOf_eq_some {bank : CompositionSet} {t i : Nat} {status : List SpanStatus} {j : SpanJob} :
    jobOf bank t status i = some j ↔ i = j.region ∧
      status.getD i .none = .placed j.offset j.length ∧
      j.start = (bank.region i).spanStart t ∧ j.done = 0 := by
  obtain ⟨region, offset, length, start, done⟩ := j
  unfold jobOf
  split
  · rename_i h
    simp only [h, Option.some.injEq, SpanJob.mk.injEq, SpanStatus.placed.injEq]
    grind
  · rename_i h
    simp only [reduceCtorEq, false_iff]
    exact fun ⟨_, hplaced, _⟩ => h _ _ hplaced

/-- The outcome of placing the regions of a list, with `budget` octets of the buffer left and the spans
before it in `status` (R85). -/
structure Placing (bank : CompositionSet) (w t budget : Nat) (l : List Nat)
    (status status' : List SpanStatus) (jobs : List SpanJob) : Prop where
  /-- Other regions keep their status. -/
  others : ∀ k, k ∉ l → status'.getD k .none = status.getD k .none
  /-- Each region is placed behind those before it, if it fits in what they leave. -/
  each : ∀ before i after, l = before ++ i :: after → status'.getD i .none =
    if (bank.region i).spanLength w ≤ budget - taken status' before then
      .placed (8192 - budget + taken status' before) ((bank.region i).spanLength w)
    else .budget
  /-- What is placed fits in the budget. -/
  fits : taken status' l ≤ budget
  /-- The spans to fetch are those of the placed regions, in order. -/
  jobs_eq : jobs = l.filterMap (jobOf bank t status')
  /-- The spans lie in the octets left, one behind another. -/
  within : ∀ j ∈ jobs, 8192 - budget ≤ j.offset ∧ j.offset + j.length ≤ 8192
  apart : jobs.Pairwise fun j k => j.offset + j.length ≤ k.offset

@[simp] theorem taken_nil (status : List SpanStatus) : taken status [] = 0 := rfl

theorem taken_cons (status : List SpanStatus) (i : Nat) (l : List Nat) :
    taken status (i :: l) = placedLength (status.getD i .none) + taken status l := rfl

/-- A status that was set stands there, and no other has changed. -/
theorem getD_set (status : List SpanStatus) {i : Nat} (hi : i < status.length) (x : SpanStatus) :
    (status.set i x).getD i .none = x ∧
      ∀ k, k ≠ i → (status.set i x).getD k .none = status.getD k .none := by
  refine ⟨by simp [List.getD_eq_getElem?_getD, hi], fun k hk => ?_⟩
  simp [List.getD_eq_getElem?_getD, List.getElem?_set_ne (Ne.symm hk)]

theorem getD_replicate (n k : Nat) :
    (List.replicate n SpanStatus.none).getD k .none = .none := by
  rw [List.getD_eq_getElem?_getD, List.getElem?_replicate]
  split <;> rfl

section Cons
variable {bank : CompositionSet} {w t budget i : Nat} {rest : List Nat}
  {status status' : List SpanStatus} {jobs : List SpanJob}

/-- A region that fits is placed, and the rest in what it leaves. -/
theorem Placing.cons_placed (hi : i ∉ rest) (hlen : i < status.length)
    (hfit : (bank.region i).spanLength w ≤ budget) (hbudget : budget ≤ 8192)
    (h : Placing bank w t (budget - (bank.region i).spanLength w) rest
      (status.set i (.placed (8192 - budget) ((bank.region i).spanLength w))) status' jobs) :
    Placing bank w t budget (i :: rest) status status'
      (⟨i, 8192 - budget, (bank.region i).spanLength w, (bank.region i).spanStart t, 0⟩ :: jobs) := by
  obtain ⟨hset, hkeep⟩ :=
    getD_set status hlen (.placed (8192 - budget) ((bank.region i).spanLength w))
  have hnow := (h.others i hi).trans hset
  have htaken : ∀ l, taken status' (i :: l) = (bank.region i).spanLength w + taken status' l :=
    fun l => by rw [taken_cons, hnow, placedLength]
  have hfits := h.fits
  refine ⟨fun k hk => ?_, fun before k after heq => ?_, ?_, ?_, ?_, ?_⟩
  · simp only [List.mem_cons, not_or] at hk
    obtain ⟨hki, hk⟩ := hk
    rw [h.others k hk, hkeep k hki]
  · cases before with
    | nil =>
      obtain ⟨rfl, -⟩ := List.cons.inj heq
      rw [hnow, taken_nil, Nat.sub_zero, if_pos hfit, Nat.add_zero]
    | cons b before =>
      obtain ⟨hb, hrest⟩ := List.cons.inj heq
      subst hb
      rw [h.each before k after hrest, htaken, Nat.sub_sub]
      congr 2
      omega
  · rw [htaken]; omega
  · have hjob : jobOf bank t status' i = some
        ⟨i, 8192 - budget, (bank.region i).spanLength w, (bank.region i).spanStart t, 0⟩ := by
      rw [jobOf, hnow]
    rw [List.filterMap_cons, hjob, ← h.jobs_eq]
  · refine List.forall_mem_cons.2 ⟨by dsimp only; omega, fun j hj => ?_⟩
    obtain ⟨hfrom, hto⟩ := h.within j hj
    exact ⟨by omega, hto⟩
  · refine List.pairwise_cons.2 ⟨fun j hj => ?_, h.apart⟩
    obtain ⟨hfrom, -⟩ := h.within j hj
    dsimp only
    omega

/-- A region that does not fit gets BUDGET, and takes nothing from the rest. -/
theorem Placing.cons_budget (hi : i ∉ rest) (hlen : i < status.length)
    (hfit : ¬ (bank.region i).spanLength w ≤ budget)
    (h : Placing bank w t budget rest (status.set i .budget) status' jobs) :
    Placing bank w t budget (i :: rest) status status' jobs := by
  obtain ⟨hset, hkeep⟩ := getD_set status hlen .budget
  have hnow := (h.others i hi).trans hset
  have htaken : ∀ l, taken status' (i :: l) = taken status' l :=
    fun l => by rw [taken_cons, hnow, placedLength, Nat.zero_add]; simp
  refine ⟨fun k hk => ?_, fun before k after heq => ?_, ?_, ?_, h.within, h.apart⟩
  · simp only [List.mem_cons, not_or] at hk
    obtain ⟨hki, hk⟩ := hk
    rw [h.others k hk, hkeep k hki]
  · cases before with
    | nil =>
      obtain ⟨rfl, -⟩ := List.cons.inj heq
      rw [hnow, taken_nil, Nat.sub_zero, if_neg hfit]
    | cons b before =>
      obtain ⟨hb, hrest⟩ := List.cons.inj heq
      subst hb
      rw [h.each before k after hrest, htaken]
  · rw [htaken]; exact h.fits
  · have hjob : jobOf bank t status' i = none := by rw [jobOf, hnow]
    rw [List.filterMap_cons, hjob]
    exact h.jobs_eq

end Cons

/-- Placing follows the list, each region in what those before it leave (R85). -/
theorem placeSpans_placing (bank : CompositionSet) (w t : Nat) {l : List Nat} (hl : l.Nodup)
    {budget : Nat} (hbudget : budget ≤ 8192) {status : List SpanStatus}
    (hindex : ∀ i ∈ l, i < status.length) :
    Placing bank w t budget l status (placeSpans bank w t l budget status).1
      (placeSpans bank w t l budget status).2 := by
  induction l generalizing budget status with
  | nil =>
    exact ⟨fun _ _ => rfl, by simp, by simp, rfl, by simp [placeSpans], by simp [placeSpans]⟩
  | cons i rest ih =>
    obtain ⟨hi, hrest⟩ := List.nodup_cons.1 hl
    obtain ⟨hlen, hindex⟩ := List.forall_mem_cons.1 hindex
    simp only [placeSpans]
    split_ifs with hfit
    · exact .cons_placed hi hlen hfit hbudget (ih hrest (by omega) (by simpa using hindex))
    · exact .cons_budget hi hlen hfit (ih hrest hbudget (by simpa using hindex))

/-! ### What stands before a region -/

/-- Only the regions of the list take octets, so the sum over all regions is that over the list. -/
theorem taken_filter_range {status : List SpanStatus} {l : List Nat} (hl : l.Nodup)
    (hrange : ∀ i ∈ l, i < 16) (hnone : ∀ k, k ∉ l → status.getD k .none = .none)
    (p : Nat → Bool) : taken status ((List.range 16).filter p) = taken status (l.filter p) := by
  unfold taken
  rw [← List.sum_toFinset _ (List.nodup_range.filter p), ← List.sum_toFinset _ (hl.filter p)]
  refine (Finset.sum_subset (fun i hi => ?_) fun i hi hout => ?_).symm
  · simp only [List.mem_toFinset, List.mem_filter, List.mem_range] at hi ⊢
    exact ⟨hrange i hi.1, hi.2⟩
  · simp only [List.mem_toFinset, List.mem_filter, not_and] at hi hout
    rw [hnone i fun hmem => hout hmem hi.2]
    rfl

/-- A part of a list takes no more than the list. -/
theorem taken_filter_le (status : List SpanStatus) (l : List Nat) (p : Nat → Bool) :
    taken status (l.filter p) ≤ taken status l :=
  (List.filter_sublist.map _).sum_le_sum fun _ _ => Nat.zero_le _

/-- In a sorted list the elements that stand before one are those ordered before it. -/
theorem filter_before {bank : CompositionSet} {before after : List Nat} {i : Nat}
    (h : (before ++ i :: after).Pairwise (fillsBefore bank)) :
    (before ++ i :: after).filter (fun k => decide (fillsBefore bank k i)) = before := by
  obtain ⟨-, htail, hcross⟩ := List.pairwise_append.1 h
  obtain ⟨hafter, -⟩ := List.pairwise_cons.1 htail
  rw [List.filter_append, List.filter_cons_of_neg (by simp [fillsBefore_irrefl bank i]),
    List.filter_eq_self.2, List.filter_eq_nil_iff.2, List.append_nil]
  · exact fun k hk => by simpa using fillsBefore_asymm (hafter k hk)
  · exact fun k hk => decide_eq_true (hcross k hk i List.mem_cons_self)

/-! ### A fetch that starts -/

/-- The spans to fetch stand in the order of the fill list. -/
theorem filterMap_jobOf_sorted {bank : CompositionSet} {t : Nat} {status : List SpanStatus}
    {l : List Nat} (h : l.Pairwise (fillsBefore bank)) :
    (l.filterMap (jobOf bank t status)).Pairwise fun j k => fillsBefore bank j.region k.region := by
  refine List.pairwise_filterMap.2 (h.imp fun {i k} hik j hj m hm => ?_)
  obtain ⟨rfl, -⟩ := jobOf_eq_some.1 hj
  obtain ⟨rfl, -⟩ := jobOf_eq_some.1 hm
  exact hik

/-- Every span of a legal region lies inside the store (R6, R84). -/
theorem span_in_store {r : Region} {w t n : Nat} (hr : r.Legal) (hsource : r.source = .overlay)
    (hbottom : t ≤ r.y1) (hn : n = min r.x1 (w - 1) - r.x0 + 1) :
    1 ≤ n ∧ n ≤ 4096 ∧ r.base + (r.srcY + t - r.y0) * r.pitch + r.srcX + n ≤ 1048576 := by
  obtain ⟨-, hx, hx1, -, -, -, -, -, -, -, -, -, -, -, -, -, hoverlay⟩ := hr
  obtain ⟨-, hlast⟩ := hoverlay hsource
  have hrow : (r.srcY + t - r.y0) * r.pitch ≤ (r.srcY + r.y1 - r.y0) * r.pitch :=
    Nat.mul_le_mul_right _ (by omega)
  omega

/-- Settles O51: by the sorted fill list and the placing of its regions one after another. -/
theorem spansFillBufferInOrder : Obligations.SpansFillBufferInOrder := by
  unfold Obligations.SpansFillBufferInOrder
  refine ⟨fun s t w bank listed hbank hw hlayers hlisted => ?_,
    fun r w t n hr hsource _ hbottom _ hn => span_in_store hr hsource hbottom hn⟩
  subst hbank hw
  generalize hbank : s.ct.activeSet = bank at *
  generalize hw : s.out.geometry.width = w at *
  have hmem : ∀ i, i ∈ fillList bank w t ↔ listed i := fun i => by
    rw [mem_fillList hlayers, hlisted, Region.listed_iff]
  have hrange : ∀ i ∈ fillList bank w t, i < 16 := fun i hi => ((mem_fillList hlayers).1 hi).1
  have hsorted := fillList_sorted bank w t
  have hnodup := fillList_nodup bank w t
  have hplacing := placeSpans_placing bank w t hnodup (Nat.le_refl 8192)
    (status := List.replicate 16 .none) (by simpa using hrange)
  have hsf : (startFetch t s).sf.fetch = some ⟨fillList bank w t,
        (placeSpans bank w t (fillList bank w t) 8192 (List.replicate 16 .none)).2⟩ ∧
      (startFetch t s).sf.filling.owner = some t ∧ (startFetch t s).sf.filling.status =
        (placeSpans bank w t (fillList bank w t) 8192 (List.replicate 16 .none)).1 := by
    subst hbank hw
    simp [startFetch, Config.bufferOctets]
  obtain ⟨hfetch, howner, hstatus⟩ := hsf
  generalize (placeSpans bank w t (fillList bank w t) 8192 (List.replicate 16 .none)).1 = status
    at hplacing hfetch hstatus
  generalize (placeSpans bank w t (fillList bank w t) 8192 (List.replicate 16 .none)).2 = jobs
    at hplacing hfetch
  have hnone : ∀ k, k ∉ fillList bank w t → status.getD k .none = .none := fun k hk => by
    rw [hplacing.others k hk]
    exact getD_replicate 16 k
  refine ⟨_, jobs, status, hfetch, howner, hstatus, hmem, hsorted, fun i hi used hused => ?_,
    fun j => ?_, fun j hj => (hplacing.within j hj).2,
    hplacing.apart.and (hplacing.jobs_eq ▸ filterMap_jobOf_sorted hsorted)⟩
  · have hused : used = taken status ((fillList bank w t).filter fun k =>
        decide (fillsBefore bank k i)) :=
      hused.trans (taken_filter_range hnodup hrange hnone _)
    refine ⟨hused ▸ (taken_filter_le _ _ _).trans hplacing.fits,
      fun hout => hnone i (mt (hmem i).1 hout), fun hin => ?_⟩
    obtain ⟨before, after, heq⟩ := List.append_of_mem ((hmem i).2 hin)
    rw [heq, filter_before (heq ▸ hsorted)] at hused
    rw [hused, hplacing.each before i after heq, Nat.sub_self, Nat.zero_add, Region.spanLength]
  · rw [hplacing.jobs_eq, List.mem_filterMap]
    constructor
    · rintro ⟨i, -, hjob⟩
      obtain ⟨rfl, hplaced, hstart, hdone⟩ := jobOf_eq_some.1 hjob
      exact ⟨hplaced, hstart, hdone⟩
    · rintro ⟨hplaced, hstart, hdone⟩
      refine ⟨j.region, ?_, jobOf_eq_some.2 ⟨rfl, hplaced, hstart, hdone⟩⟩
      by_contra hout
      rw [hnone _ hout] at hplaced
      cases hplaced

end Sys2Proof.Machine
end

section
/-! Edit state, timer, commit request and the waiting command: every row keeps them in agreement (R20, R21,
R23, R172). -/

namespace Sys2Proof.Machine

/-! ### The law by its parts -/

/-- The part of the law that the table alone obeys: no request while the edit is OPEN, and a timer exactly
then (R20 to R22). -/
abbrev TableLaw (c : CompositionTable) : Prop :=
  (c.editOpen = true → c.request = none ∧ 1 ≤ c.timer ∧ c.timer ≤ 64) ∧
  (c.editOpen = false → c.timer = 0)

theorem EditLaw.table {s : State} (h : EditLaw s) : TableLaw s.ct := by
  obtain ⟨hopen, hclosed, -⟩ := h
  exact ⟨hopen, hclosed⟩

/-- The law looks at the table and at the command in execution only. -/
theorem EditLaw.of_same {s t : State} (h : EditLaw s) (hct : t.ct = s.ct)
    (hexec : t.ce.exec = s.ce.exec) : EditLaw t := by
  simpa only [EditLaw, hct, hexec] using h

/-- A bank may change. -/
theorem EditLaw.of_banks {s t : State} (h : EditLaw s) (hopen : t.ct.editOpen = s.ct.editOpen)
    (htimer : t.ct.timer = s.ct.timer) (hrequest : t.ct.request = s.ct.request)
    (hexec : t.ce.exec = s.ce.exec) : EditLaw t := by
  simpa only [EditLaw, hopen, htimer, hrequest, hexec] using h

/-- With no command in execution only a request of origin COMMAND could break the law. -/
theorem editLaw_idle {s : State} (htable : TableLaw s.ct) (hrequest : s.ct.request ≠ some .command)
    (hexec : s.ce.exec = none) : EditLaw s := by
  obtain ⟨hopen, hclosed⟩ := htable
  exact ⟨hopen, hclosed, fun h => absurd h hrequest, by simp [hexec], by simp [hexec]⟩

/-- A request of origin COMMAND has its command waiting. -/
theorem EditLaw.request_ne_command {s : State} (h : EditLaw s)
    (hexec : ∀ e ∈ s.ce.exec, e.progress ≠ .commit) : s.ct.request ≠ some .command := fun hr => by
  obtain ⟨-, -, hwaits, -⟩ := h
  obtain ⟨e, he, hcommit⟩ := hwaits hr
  exact hexec e he hcommit

/-! ### The command in execution -/

@[simp] theorem queueResponse_exec (r : Response) (s : State) :
    (queueResponse r s).ce.exec = s.ce.exec := rfl

@[simp] theorem cacheResponse_exec (e : CacheEntry) (s : State) :
    (cacheResponse e s).ce.exec = s.ce.exec := rfl

@[simp] theorem answer_exec (q : Queued) (st : Status) (d : List Byte) (s : State) :
    (answer q st d s).ce.exec = s.ce.exec := rfl

@[simp] theorem answers_exec (l : List Queued) (st : Status) (d : Queued → List Byte) (s : State) :
    (l.foldl (fun t q => answer q st (d q) t) s).ce.exec = s.ce.exec := by
  induction l generalizing s with
  | nil => rfl
  | cons q l ih => exact ih _

@[simp] theorem completeCommand_exec (st : Status) (d : List Byte) (s : State) :
    (completeCommand st d s).ce.exec = none := by
  unfold completeCommand
  split
  · dsimp only
    split_ifs <;> rfl
  · assumption

@[simp] theorem discardCommand_exec (s : State) : (discardCommand s).ce.exec = s.ce.exec := rfl

@[simp] theorem takeNew_exec (q : Queued) (s : State) : (takeNew q s).ce.exec = s.ce.exec := by
  unfold takeNew; split_ifs <;> rfl

@[simp] theorem takeStale_exec (q : Queued) (s : State) : (takeStale q s).ce.exec = s.ce.exec := by
  unfold takeStale; split_ifs <;> rfl

@[simp] theorem takeRecent_exec (q : Queued) (s : State) :
    (takeRecent q s).ce.exec = s.ce.exec := by
  unfold takeRecent; split <;> split_ifs <;> simp

@[simp] theorem intakeSequenced_exec (q : Queued) (s : State) :
    (intakeSequenced q s).ce.exec = s.ce.exec := by
  simp only [intakeSequenced]; split <;> (try split_ifs) <;> simp

@[simp] theorem intakeBroadcastCommit_exec (p : List Byte) (s : State) :
    (intakeBroadcastCommit p s).ce.exec = s.ce.exec := by
  unfold intakeBroadcastCommit; split_ifs <;> rfl

@[simp] theorem takeEnum_exec (p : Packet) (s : State) : (takeEnum p s).ce.exec = s.ce.exec := by
  simp only [takeEnum]
  split
  · simp
  · split_ifs <;> simp [takeEnumeration]

theorem assemblyActs_exec (n : Nat) : ∀ act ∈ assemblyActs n, ∀ x : State × Assembly,
    (act x).1.ce.exec = x.1.ce.exec := by
  simp only [assemblyActs, List.mem_cons, List.mem_replicate, forall_eq_or_imp]
  refine ⟨fun x => rfl, fun act ⟨_, h⟩ x => ?_⟩
  subst h
  simp only [insertNext]
  split
  · rename_i c _
    split_ifs
    · cases c <;> rfl
    · rfl
  · rfl

/-! ### Edits -/

/-- An edit may be CLOSED, its timer stopped, with the request and the waiting command as they are. -/
theorem EditLaw.closed {s t : State} (h : EditLaw s) (hopen : t.ct.editOpen = false)
    (htimer : t.ct.timer = 0) (hrequest : t.ct.request = s.ct.request)
    (hexec : t.ce.exec = s.ce.exec) : EditLaw t := by
  obtain ⟨-, -, hwaits⟩ := h
  exact ⟨by simp [hopen], fun _ => htimer, by simpa only [hrequest, hexec] using hwaits⟩

theorem discardEdit_editLaw {s : State} (h : EditLaw s) : EditLaw (discardEdit s) :=
  h.closed rfl rfl rfl rfl

theorem offer_editLaw (n : Notice) {s : State} (h : EditLaw s) : EditLaw (offer n s) :=
  h.of_same (by simp) (by simp)

theorem expireEdit_editLaw {s : State} (h : EditLaw s) : EditLaw (expireEdit s) :=
  offer_editLaw _ (discardEdit_editLaw h)

/-- An open edit's timer counts down and stays above 0 until the edit expires (R33). -/
theorem countEdit_editLaw {s : State} (h : EditLaw s) : EditLaw (countEdit s) := by
  unfold countEdit
  split_ifs with htimer
  · exact expireEdit_editLaw h
  · obtain ⟨hopen, hclosed, hwaits⟩ := h
    refine ⟨fun he => ?_, fun he => ?_, hwaits⟩
    · obtain ⟨hrequest, -, hle⟩ := hopen he
      simp only [State.withCt_ct]
      exact ⟨hrequest, by omega, by omega⟩
    · have := hclosed he
      omega

/-! ### Beginning a command -/

/-- What a command that begins leaves: done, the law stands; staying, it stands with the command in
execution. -/
def EditBegun (q : Queued) (r : State × Result) : Prop :=
  match r.2 with
  | .done _ _ => EditLaw r.1
  | .stays progress => EditLaw (r.1.withCe { r.1.ce with exec := some ⟨q, progress⟩ })

theorem checked_editBegun {q : Queued} {checks : List (Bool × Nat)}
    {effect : State → State × Result} {s : State} (h : EditLaw s) (heffect : EditBegun q (effect s)) :
    EditBegun q (checked checks effect s) := by
  unfold checked
  split
  · exact h
  · exact heffect

theorem whileOpen_editBegun {q : Queued} {run : State → State × Result} {s : State} (h : EditLaw s)
    (hrun : EditBegun q (run s)) : EditBegun q (whileOpen run s) := by
  unfold whileOpen
  split_ifs
  · exact hrun
  · exact h

/-- A requested commit waits with its command, the edit CLOSED (R21, R172). -/
theorem requestCommit_editBegun {q : Queued} {s : State} (hopen : s.ct.editOpen = false)
    (htimer : s.ct.timer = 0) : EditBegun q (requestCommit s, .stays .commit) := by
  refine ⟨fun he => ?_, fun _ => htimer, fun _ => ⟨_, rfl, rfl⟩, fun _ _ _ => rfl, ?_⟩
  · simp [requestCommit, hopen] at he
  · rintro e ⟨⟩ hp
    cases hp

/-- EDIT_OPEN opens the edit where no commit is requested, and waits for a RESET request (R22, R23). -/
theorem runEditOpen_editBegun {q : Queued} {s : State} (h : EditLaw s) (hidle : s.ce.exec = none) :
    EditBegun q (runEditOpen q.payload s) := by
  have hnone : s.ct.request ≠ some .command := h.request_ne_command (by simp [hidle])
  obtain ⟨-, hclosed⟩ := h.table
  simp only [runEditOpen]
  split_ifs with hopen hrange hrequest
  · exact h
  · exact h
  · have hreset : s.ct.request = some .reset := by
      rcases hr : s.ct.request with _ | _ | _ <;> simp_all
    refine ⟨fun he => absurd he hopen, hclosed, fun hr => absurd hr hnone, ?_, ?_⟩
    · rintro e ⟨⟩ hp
      cases hp
    · rintro e ⟨⟩ -
      exact ⟨hreset, by dsimp only; omega, by dsimp only; omega⟩
  · have habsent : s.ct.request = none := by simpa using hrequest
    exact editLaw_idle ⟨fun _ => ⟨habsent, by simp only [openEdit, State.withCt_ct]; omega,
      by simp only [openEdit, State.withCt_ct]; omega⟩, by simp [openEdit]⟩ hnone hidle

/-- EDIT_CLOSE closes the edit, and in mode COMMIT waits for the commit (R24 to R27). -/
theorem runEditClose_editBegun {q : Queued} {s : State} (h : EditLaw s) :
    EditBegun q (runEditClose q.payload s) := by
  unfold runEditClose
  split_ifs with hopen
  · split
    · exact discardEdit_editLaw h
    · exact h.closed rfl rfl rfl rfl
    · exact requestCommit_editBegun rfl rfl
    · exact h
  · exact h

theorem runCommit_editBegun {q : Queued} {s : State} (h : EditLaw s) :
    EditBegun q (runCommit s) := by
  obtain ⟨-, hclosed⟩ := h.table
  unfold runCommit
  split_ifs with hopen
  · exact h
  · have hopen : s.ct.editOpen = false := by simpa using hopen
    exact requestCommit_editBegun hopen (hclosed hopen)

/-- A store command waits for its operation, no commit behind it. -/
theorem runStore_editBegun {q : Queued} {s : State} (params : StoreParams) (h : EditLaw s)
    (hidle : s.ce.exec = none) : EditBegun q (runStore params s) := by
  have hnone : s.ct.request ≠ some .command := h.request_ne_command (by simp [hidle])
  obtain ⟨hopen, hclosed⟩ := h.table
  refine ⟨hopen, hclosed, fun hr => absurd hr hnone, ?_, ?_⟩ <;>
  · rintro e ⟨⟩ hp
    cases hp

/-- A command executed by its block leaves the law. -/
theorem Command.run_editBegun (c : Command) {q : Queued} {s : State} (h : EditLaw s)
    (hidle : s.ce.exec = none) : EditBegun q (c.run q.payload s) := by
  cases c with
  | editOpen => exact runEditOpen_editBegun h hidle
  | editClose => exact runEditClose_editBegun h
  | commit => exact runCommit_editBegun h
  | ovlWrite | ovlFill | ovlCopy | ovlRead => exact runStore_editBegun _ h hidle
  | setRegion | setPalette | setCue =>
    exact whileOpen_editBegun h (checked_editBegun h (h.of_banks rfl rfl rfl rfl))
  | readInfo | readStatus => exact h
  | clearCounters => exact h.of_same rfl rfl
  | setNotifyMask | setTiming | readRegion | readPalette | readCue | setFence | readFence
  | readMeasure | setReport => exact checked_editBegun h (by exact h.of_same rfl rfl)

theorem runSequenced_editBegun {q : Queued} {s : State} (h : EditLaw s) (hidle : s.ce.exec = none) :
    EditBegun q (runSequenced q.code q.payload s) := by
  unfold runSequenced
  split
  · exact h
  · split_ifs
    · exact Command.run_editBegun _ h hidle
    · exact h

/-- A command that leaves the queue with none in execution leaves the law. -/
theorem beginQueued_editLaw (q : Queued) {s : State} (h : EditLaw s) (hidle : s.ce.exec = none) :
    EditLaw (beginQueued q s) := by
  unfold beginQueued
  split_ifs
  · have hbegun := runSequenced_editBegun (q := q) h hidle
    split <;> rename_i hrun <;> rw [hrun] at hbegun
    · exact EditLaw.of_same hbegun (by simp) (by simp)
    · exact hbegun
  · unfold runBroadcastCommit
    obtain ⟨-, hclosed⟩ := h.table
    split_ifs with hpayload hopen
    · exact h
    · exact offer_editLaw _ h
    · have hopen : s.ct.editOpen = false := by simpa using hopen
      exact requestCommit_editBegun (q := q) hopen (hclosed hopen)

theorem beginNext_editLaw {s : State} (h : EditLaw s) : EditLaw (beginNext s) := by
  unfold beginNext
  split_ifs with hcan
  · have hidle : s.ce.exec = none := by
      simp only [canBegin, Bool.and_eq_true, Option.isNone_iff_eq_none] at hcan
      exact hcan.1
    split
    · exact h
    · exact beginQueued_editLaw _ (h.of_same rfl rfl) hidle
  · exact h

/-- Acts that each keep the law, whatever their blocks. -/
abbrev ActsKeepEdit (acts : List (State → State)) : Prop :=
  ∀ act ∈ acts, ∀ x, EditLaw x → EditLaw (act x)

theorem settleActs_editLaw (s : State) : ActsKeepEdit (settleActs s) := fun act hact x hx => by
  rw [List.eq_of_mem_replicate hact]
  exact beginNext_editLaw hx

theorem settleEngine_editLaw {s : State} (h : EditLaw s) : EditLaw (settleEngine s) :=
  runActs_induct (settleActs_editLaw s) h

/-! ### Completions -/

/-- A completed command leaves nothing waiting, if its request is not of origin COMMAND. -/
theorem completeCommand_editLaw (st : Status) (d : List Byte) {s : State} (htable : TableLaw s.ct)
    (hrequest : s.ct.request ≠ some .command) : EditLaw (completeCommand st d s) :=
  editLaw_idle (by simpa using htable) (by simpa using hrequest) (by simp)

theorem completeCancel_editLaw (c : CancelWait) (d : List Byte) {s : State} (htable : TableLaw s.ct)
    (hrequest : s.ct.request ≠ some .command) : EditLaw (completeCancel c d s) :=
  settleEngine_editLaw (editLaw_idle (by simpa using htable) (by simpa using hrequest) (by simp))

/-- Commit-applied ends the command that waits for it, and opens the edit of a waiting EDIT_OPEN (R23,
R34). -/
theorem takeCommitApplied_editLaw {s : State} (htable : TableLaw s.ct) (hrequest : s.ct.request = none)
    (hopens : ∀ e ∈ s.ce.exec, e.progress = .resetCommit →
      1 ≤ fieldAt e.command.payload 0 1 ∧ fieldAt e.command.payload 0 1 ≤ 64) :
    EditLaw (takeCommitApplied s) := by
  unfold takeCommitApplied
  split
  · exact completeCommand_editLaw _ _ htable (by simp [hrequest])
  · rename_i q hexec
    refine completeCommand_editLaw _ _ ⟨fun _ => ⟨hrequest, hopens _ hexec rfl⟩, ?_⟩
      (by simp [openEdit, hrequest])
    simp [openEdit]
  · rename_i hcommit hreset
    obtain ⟨hopen, hclosed⟩ := htable
    refine ⟨hopen, hclosed, by simp [hrequest], ?_, ?_⟩
    · rintro ⟨q, p⟩ he rfl
      exact absurd he (hcommit q)
    · rintro ⟨q, p⟩ he rfl
      exact absurd he (hreset q)

/-- A commit takes its request away and ends the command that waits for it. -/
theorem commitNow_editLaw {s : State} (h : EditLaw s) : EditLaw (commitNow s) := by
  obtain ⟨hopen, hclosed, -, -, hreset⟩ := h
  have hct : (setReady (clearMonitors (changedRegions s.ct.activeSet s.ct.pendingSet)
      (applyCommit s))).ct = { s.ct with activeSet := s.ct.pendingSet, request := none } := by
    simp [applyCommit]
  refine takeCommitApplied_editLaw ?_ (by rw [hct]) fun e he hp => (hreset e (by simpa using he) hp).2
  rw [hct]
  exact ⟨fun he => ⟨rfl, (hopen he).2⟩, hclosed⟩

/-! ### Store operations -/

/-- Only a store command can be in execution. -/
abbrev StoreOrIdle (s : State) : Prop := ∀ e ∈ s.ce.exec, e.progress = .store

/-- With an operation in the record no other command is in execution. -/
theorem RecordLaw.storeOrIdle {s : State} (h : RecordLaw s) (hop : s.os.op.isSome = true) :
    StoreOrIdle s := by
  obtain ⟨-, -, -, -, -, hstore, -⟩ := h
  exact fun e he => (hstore e he).2 hop

theorem EditLaw.storeOrIdle_request {s : State} (h : EditLaw s) (hs : StoreOrIdle s) :
    s.ct.request ≠ some .command := h.request_ne_command fun e he => by simp [hs e he]

theorem finishOperation_editLaw (op : StoreOp) {s : State} (h : EditLaw s) (hs : StoreOrIdle s) :
    EditLaw (finishOperation op s) :=
  settleEngine_editLaw (completeCommand_editLaw _ _ (by simpa using h.table)
    (by simpa using h.storeOrIdle_request hs))

theorem advanceOperation_editLaw (op : StoreOp) {s : State} (h : EditLaw s) (hs : StoreOrIdle s) :
    EditLaw (advanceOperation op s) := by
  simp only [advanceOperation]
  split
  · exact h.of_same rfl rfl
  · exact finishOperation_editLaw _ h hs

theorem grantStore_editLaw {s : State} (h : EditLaw s) : EditLaw (grantStore s) :=
  h.of_same (by simp) (by simp)

theorem completeChecks_editLaw (op : StoreOp) {s : State} (h : EditLaw s) (hs : StoreOrIdle s) :
    EditLaw (completeChecks op s) := by
  unfold completeChecks
  split
  · exact settleEngine_editLaw (completeCommand_editLaw _ _ (by simpa using h.table)
      (by simpa using h.storeOrIdle_request hs))
  · exact grantStore_editLaw (advanceOperation_editLaw _ h hs)

theorem endOperation_editLaw (op : StoreOp) {s : State} (h : EditLaw s) (hs : StoreOrIdle s) :
    EditLaw (endOperation op s) := by
  simp only [endOperation]
  split
  · exact completeCancel_editLaw _ _ (by simpa using h.table) (by simpa using h.storeOrIdle_request hs)
  · exact settleEngine_editLaw (h.of_same (by simp) (by simp))

theorem completeWrite_editLaw (op : StoreOp) (r : BurstRequest) {s : State} (h : EditLaw s)
    (hs : StoreOrIdle s) : EditLaw (completeWrite op r s) := by
  simp only [completeWrite]
  split_ifs
  · exact endOperation_editLaw _ (h.of_same rfl rfl) hs
  · exact advanceOperation_editLaw _ (h.of_same rfl rfl) hs

theorem completeRead_editLaw (op : StoreOp) (r : BurstRequest) {s : State} (h : EditLaw s)
    (hs : StoreOrIdle s) : EditLaw (completeRead op r s) := by
  simp only [completeRead]
  split_ifs
  · exact endOperation_editLaw op h hs
  · exact h.of_same rfl rfl
  · exact advanceOperation_editLaw _ h hs

theorem completeEngineBurst_editLaw (g : Grant) {s : State} (hrecord : RecordLaw s)
    (h : EditLaw s) : EditLaw (completeEngineBurst g s) := by
  have hfree : EditLaw (s.withOs { s.os with busy := none }) := h.of_same rfl rfl
  refine grantStore_editLaw ?_
  split
  · rename_i op hop
    have hs : StoreOrIdle (s.withOs { s.os with busy := none }) :=
      hrecord.storeOrIdle (Option.isSome_of_mem hop)
    split_ifs
    · exact completeWrite_editLaw op _ hfree hs
    · exact completeRead_editLaw op _ hfree hs
  · exact hfree

/-! ### Intake -/

theorem withdrawn_ne_command (r : Option Origin) :
    (if r = some .command then none else r) ≠ some .command := by
  split_ifs with h
  · simp
  · exact h

/-- CANCEL withdraws a request of origin COMMAND with the command that waits for it (R35, R176). -/
theorem performCancel_editLaw (seq code : Byte) {s : State} (h : EditLaw s) :
    EditLaw (performCancel seq code s) := by
  have htable := h.table
  simp only [performCancel]
  split
  · rename_i hexec
    exact completeCancel_editLaw _ _ htable (h.request_ne_command (by simp_all))
  · rename_i q hexec
    have hrequest : s.ct.request ≠ some .command := h.request_ne_command fun e he => by
      obtain rfl := Option.some.inj (hexec.symm.trans he)
      simp
    split_ifs
    · exact h.of_same (by simp) (by simp)
    · exact completeCancel_editLaw _ _ (by simpa using htable) (by simpa using hrequest)
  · obtain ⟨hopen, hclosed⟩ := htable
    refine completeCancel_editLaw _ _ ⟨fun he => ?_, hclosed⟩ ?_
    · obtain ⟨hnone, htimer⟩ := hopen he
      exact ⟨by simp [hnone], htimer⟩
    · exact withdrawn_ne_command s.ct.request
  · rename_i q hexec
    refine completeCancel_editLaw _ _ htable (h.request_ne_command fun e he => ?_)
    obtain rfl := Option.some.inj (hexec.symm.trans he)
    simp

/-- NODE_RESET leaves the edit CLOSED and a RESET request, no command in execution (R36, R178). -/
theorem performReset_editLaw (s : State) : EditLaw (performReset s) :=
  editLaw_idle ⟨by simp [performReset, resetCt], by simp [performReset, resetCt]⟩
    (by simp [performReset, resetCt]) (by simp [performReset, resetCt, resetCe])

/-- Intake of an immediate command keeps the law, if its effect does. -/
theorem intakeImmediate_editLaw {effect : State → State}
    (heffect : ∀ x, EditLaw x → EditLaw (effect x)) (seq code : Byte) (p : List Byte) {s : State}
    (h : EditLaw s) : EditLaw (intakeImmediate effect seq code p s) := by
  simp only [intakeImmediate]
  split_ifs
  · exact heffect _ (h.of_same rfl rfl)
  · exact h.of_same rfl rfl
  · exact h.of_same rfl rfl

theorem intakeAddressed_editLaw (seq code : Byte) (p : List Byte) {s : State} (h : EditLaw s) :
    EditLaw (intakeAddressed seq code p s) := by
  unfold intakeAddressed
  split_ifs
  · exact intakeImmediate_editLaw (fun x hx => performCancel_editLaw _ _ hx) _ _ _ h
  · exact intakeImmediate_editLaw
      (effect := fun x => fillSlot seq nodeResetCode .ok (performReset x))
      (fun x _ => (performReset_editLaw x).of_same rfl rfl) _ _ _ h
  · exact settleEngine_editLaw (h.of_same (by simp) (by simp))

theorem intakeBroadcast_editLaw (code : Byte) (p : List Byte) {s : State} (h : EditLaw s) :
    EditLaw (intakeBroadcast code p s) := by
  unfold intakeBroadcast intakeBroadcastReset
  split_ifs
  · exact performReset_editLaw s
  · exact h.of_same rfl rfl
  · exact settleEngine_editLaw (h.of_same (by simp) (by simp))

/-- A row handed over keeps the law. -/
theorem handOver_editLaw {seq code : Byte} {p : List Byte} {s t : State} (h : EditLaw s)
    (hnext : handOver seq code p s = .next t) : EditLaw t := by
  unfold handOver at hnext
  split_ifs at hnext <;> cases hnext
  · exact intakeAddressed_editLaw seq code p h
  · exact h

/-! ### Packets and pixel words -/

theorem forwardPacket_editLaw (p : Packet) {s : State} (h : EditLaw s) :
    EditLaw (forwardPacket p s) := h.of_same (by simp) (by simp)

theorem takeBroadcast_editLaw (p : Packet) {s : State} (h : EditLaw s) :
    EditLaw (takeBroadcast p s) := by
  simp only [takeBroadcast]
  split_ifs
  · exact intakeBroadcast_editLaw _ _ h
  · exact h.of_same rfl rfl

theorem takePacket_editLaw (p : Packet) {s : State} (h : EditLaw s) :
    EditLaw (takePacket p s) := by
  have hdraw : EditLaw (s.withFree (s.free + 1)) := h.of_same rfl rfl
  simp only [takePacket]
  split_ifs
  · exact forwardPacket_editLaw p (h.of_same rfl rfl)
  · exact intakeAddressed_editLaw _ _ _ h
  · simp only [eitherOrder]
    split_ifs
    · exact takeBroadcast_editLaw p (forwardPacket_editLaw p hdraw)
    · exact forwardPacket_editLaw p (takeBroadcast_editLaw p hdraw)
  · exact takeBroadcast_editLaw p (forwardPacket_editLaw p h)
  · exact h.of_same (by simp) (by simp)
  · exact forwardPacket_editLaw p h

theorem feedOctet_editLaw (o : Byte) {s : State} (h : EditLaw s) : EditLaw (feedOctet s o) := by
  simp only [feedOctet]
  split
  · exact h
  · split_ifs
    · exact h
    · exact h.of_same rfl rfl
    · exact h.of_same rfl rfl
    · exact h.of_same rfl rfl
    · exact h.of_same rfl rfl
    · exact takePacket_editLaw _ (h.of_same rfl rfl)
    · exact h.of_same rfl rfl

theorem feedOctets_editLaw (l : List Byte) {s : State} (h : EditLaw s) :
    EditLaw (l.foldl feedOctet s) := by
  induction l generalizing s with
  | nil => exact h
  | cons o l ih => exact ih (feedOctet_editLaw o h)

theorem takePixelWord_editLaw (bits : BitVec 31) {s : State} (h : EditLaw s) :
    EditLaw (takePixelWord bits s) := by
  simp only [takePixelWord]
  split
  · exact h
  · split_ifs
    · exact feedOctets_editLaw _ (h.of_same rfl rfl)
    · exact h.of_same rfl rfl
    · exact h.of_same rfl rfl

/-! ### Output lines -/

/-- Every act of an activation event keeps the law (R30, R33). -/
theorem activationActs_editLaw (s : State) : ActsKeepEdit (activationActs s) := by
  have hready : ∀ x, EditLaw x → EditLaw (setReady x) := fun x h => h.of_same (by simp) (by simp)
  unfold activationActs
  split_ifs
  · exact List.forall_mem_singleton.2 fun x h => hready _ (countEdit_editLaw h)
  · exact List.forall_mem_cons.2 ⟨fun x => commitNow_editLaw, settleActs_editLaw s⟩
  · exact List.forall_mem_singleton.2 hready

theorem endParseActs_editLaw (s : State) : ActsKeepEdit (endParseActs s) :=
  fun act hact x h => h.of_same (by simp [endParseActs_each s act hact x])
    (by simp [endParseActs_each s act hact x])

theorem dropActs_editLaw (l : Option InputLine) : ActsKeepEdit (dropActs l) :=
  fun act hact x h => h.of_same (by simp [dropActs_each l act hact x])
    (by simp [dropActs_each l act hact x])

theorem dueFrameEndActs_editLaw (s : State) : ActsKeepEdit (dueFrameEndActs s) :=
  fun act hact x h => h.of_same (by simp [dueFrameEndActs_each s act hact x])
    (by simp [dueFrameEndActs_each s act hact x])

theorem dueActivationActs_editLaw (s : State) : ActsKeepEdit (dueActivationActs s) := by
  unfold dueActivationActs
  split_ifs
  · simp [ActsKeepEdit]
  · exact List.forall_mem_cons.2 ⟨fun x h => h.of_same rfl rfl, activationActs_editLaw s⟩

theorem lineEventActs_editLaw (activation : Bool) {others : List (State → State)} (s : State)
    (h : ActsKeepEdit others) : ActsKeepEdit (lineEventActs activation others s).1 := by
  intro act hact
  simp only [lineEventActs, mem_interleaved, List.mem_append] at hact
  obtain (hact | hact) | hact := hact
  · exact dueFrameEndActs_editLaw s act hact
  · split_ifs at hact
    · exact dueActivationActs_editLaw s act hact
    · simp at hact
  · exact h act hact

/-- The emissions of an assembly touch neither the table nor the command in execution. -/
theorem assembleAmong_editLaw {events : List (State → State)} (words : Nat) (forward : List Packet)
    {s : State} (hevents : ActsKeepEdit events) (h : EditLaw s) :
    EditLaw (assembleAmong events words forward s).1 := by
  simp only [assembleAmong]
  refine runActs_induct (P := fun x : State × Assembly => EditLaw x.1) (fun act hact x hx => ?_)
    (h.of_same (by simp) (by simp))
  rcases mem_interleaved.1 hact with hact | hact
  · obtain ⟨e, he, rfl⟩ := List.mem_map.1 hact
    exact hevents e he x.1 hx
  · exact hx.of_same (by simp [assemblyActs_each _ act hact x]) (assemblyActs_exec _ act hact x)

theorem outputLineStart_editLaw (kind : LineKind) (frameStart : Bool) (starts : List Pixel)
    (forward : List Packet) (activation : Bool) {others : List (State → State)} {s : State}
    (hothers : ActsKeepEdit others) (h : EditLaw s) :
    EditLaw (outputLineStart kind frameStart starts forward activation others s) := by
  have hevents := lineEventActs_editLaw activation s hothers
  have hdrawn : EditLaw (lineEventActs activation others s).2 := h.of_same (by simp) (by simp)
  have hsend : ∀ k f w x, EditLaw x → EditLaw (sendPixels k f w x) :=
    fun k f w x hx => hx.of_same (by simp) (by simp)
  cases kind with
  | active =>
    exact (runActs_induct hothers h).of_same (by simp [outputLineStart]) (by simp [outputLineStart])
  | mgmt => exact hsend _ _ _ _ (assembleAmong_editLaw _ _ hevents hdrawn)
  | blank => exact hsend _ _ _ _ (runActs_induct hevents hdrawn)

theorem internalLine_editLaw (i : Nat) {others : List (State → State)} {s : State}
    (hothers : ActsKeepEdit others) (h : EditLaw s) : EditLaw (internalLine i others s) :=
  outputLineStart_editLaw _ _ _ _ _ hothers (h.of_same rfl rfl)

theorem startInternalFrame_editLaw (startedAt : Nat) {others : List (State → State)} {s : State}
    (hothers : ActsKeepEdit others) (h : EditLaw s) :
    EditLaw (startInternalFrame startedAt others s) := by
  simp only [startInternalFrame]
  refine internalLine_editLaw 0 hothers (h.of_same ?_ ?_) <;> split_ifs <;> simp

theorem offerLock_editLaw (a b : LockState) (c : LockCause) {s : State} (h : EditLaw s) :
    EditLaw (offerLock a b c s) := offer_editLaw _ h

theorem nextInternalFrame_editLaw {s : State} (h : EditLaw s) : EditLaw (nextInternalFrame s) := by
  simp only [nextInternalFrame]
  generalize (if s.out.running = true then s.out.startedAt + s.out.period * 1000 else s.now) = begins
  split_ifs
  · exact startInternalFrame_editLaw _
      (List.forall_mem_singleton.2 fun x hx => offerLock_editLaw _ _ _ hx)
      (h.of_same (by simp) (by simp))
  · exact startInternalFrame_editLaw _ (by simp [ActsKeepEdit]) (h.of_same rfl rfl)
  · exact startInternalFrame_editLaw _ (by simp [ActsKeepEdit]) (h.of_same rfl rfl)

theorem paceInternal_editLaw {s : State} (h : EditLaw s) : EditLaw (paceInternal s) := by
  simp only [paceInternal]
  split_ifs
  · exact h
  · exact nextInternalFrame_editLaw h
  · exact internalLine_editLaw _ (by simp [ActsKeepEdit]) (h.of_same rfl rfl)

/-! ### Input lines -/

theorem departLocked_editLaw (new : LockState) (cause : LockCause) {errors : List (State → State)}
    {s : State} (herrors : ActsKeepEdit errors) (h : EditLaw s) :
    EditLaw (departLocked new cause errors s) := by
  simp only [departLocked]
  refine startInternalFrame_editLaw _ (fun act hact x hx => ?_) (h.of_same (by simp) (by simp))
  simp only [mem_interleaved, List.mem_append, List.mem_cons, List.not_mem_nil, or_false] at hact
  obtain ((hact | hact) | hact) | rfl | rfl := hact
  · exact herrors act hact x hx
  · exact dropActs_editLaw _ act hact x hx
  · exact dropActs_editLaw _ act hact x hx
  · exact hx.of_same rfl rfl
  · exact offerLock_editLaw _ _ _ hx

theorem expireFlywheel_editLaw (due : Nat) {s : State} (h : EditLaw s) :
    EditLaw (expireFlywheel due s) := by
  simp only [expireFlywheel]
  split_ifs <;> exact departLocked_editLaw _ _ (by simp [ActsKeepEdit]) (h.of_same rfl rfl)

theorem takeFrameStart_editLaw (ended : Option InputFrame) {errors : List (State → State)}
    {s : State} (herrors : ActsKeepEdit errors) (h : EditLaw s) :
    EditLaw (takeFrameStart ended errors s) := by
  have hcandidate : ∀ f x, EditLaw x → EditLaw (becomeCandidate f x) :=
    fun f x hx => hx.of_same (by simp) (by simp)
  have hdepart := departLocked_editLaw .acquiring .mismatch herrors h
  unfold takeFrameStart
  split
  · exact h.of_same (by simp) (by simp)
  · split
    · split_ifs <;> exact h.of_same (by simp) (by simp)
    · exact h.of_same (by simp) (by simp)
  · split
    · split_ifs
      · exact h.of_same (by simp) (by simp)
      · exact hcandidate _ _ hdepart
    · exact hcandidate _ _ hdepart
  · split_ifs
    · split
      · split_ifs <;> exact h.of_same (by simp) (by simp)
      · exact h
    · exact h.of_same rfl rfl

theorem carryLine_editLaw (first : Bool) (a : InputLine) (b : Option InputLine)
    {errors : List (State → State)} {s : State} (herrors : ActsKeepEdit errors) (h : EditLaw s) :
    EditLaw (carryLine first a b errors s) := by
  simp only [carryLine]
  refine outputLineStart_editLaw _ _ _ _ _ herrors (h.of_same ?_ ?_) <;> split_ifs <;> simp

theorem followInput_editLaw (a b : Option InputLine) (index : Nat) {errors : List (State → State)}
    {s : State} (herrors : ActsKeepEdit errors) (h : EditLaw s) :
    EditLaw (followInput a b index errors s) := by
  unfold followInput
  split
  · split_ifs
    · exact carryLine_editLaw _ _ _ herrors h
    · exact carryLine_editLaw _ _ _ herrors (h.of_same rfl rfl)
    · exact runActs_induct herrors h
  · exact runActs_induct herrors h

theorem takeLineStart_editLaw (bits : BitVec 31) (clock : Nat) {s : State} (h : EditLaw s) :
    EditLaw (takeLineStart bits clock s) := by
  have hended := endParseActs_editLaw s
  have hbegin : EditLaw (endLine (s.advanceTo clock)) := h.of_same (by simp) (by simp)
  have hparse : ∀ k l x, EditLaw x → EditLaw (beginParse k (x.withRtu l)) :=
    fun k l x hx => hx.of_same (by simp) (by simp)
  simp only [takeLineStart]
  refine hparse _ _ _ (followInput_editLaw _ _ _ ?errors ?start)
  case errors =>
    split_ifs
    · simp [ActsKeepEdit]
    · exact hended
  case start =>
    split_ifs
    · exact (takeFrameStart_editLaw _ hended hbegin).of_same rfl rfl
    · exact hbegin

/-! ### Rows -/

/-- A row that acts only while RESET is high keeps the law, if its effect does. -/
theorem whileRunning_editLaw {effect : State → State} {s t : State} (h : EditLaw s)
    (heffect : EditLaw (effect s)) (hnext : whileRunning effect s = .next t) : EditLaw t := by
  rcases whileRunning_next hnext with rfl | rfl <;> assumption

theorem startFirstFrame_editLaw {s : State} (h : EditLaw s) : EditLaw (startFirstFrame s) :=
  startInternalFrame_editLaw _ (by simp [ActsKeepEdit]) h

/-- After power-on and pin reset the edit is CLOSED, and nothing waits (R10, R20, R21). -/
theorem editLaw_initial {s : State} (hct : s.ct = .initial) (hce : s.ce = .initial) : EditLaw s := by
  rw [EditLaw, hct, hce]
  decide

/-- Every row keeps edit state, timer, commit request and waiting command in agreement; the rows that end
a store operation need the agreement of the operation record with the command in execution. -/
theorem exec_editLaw {c : Instr} {s t : State} (hrecord : RecordLaw s) (h : EditLaw s)
    (hnext : exec c s = .next t) : EditLaw t := by
  cases c with
  | powerOn => cases hnext; exact startFirstFrame_editLaw (editLaw_initial rfl rfl)
  | pinReset => cases hnext; exact editLaw_initial rfl rfl
  | resetRelease =>
    simp only [exec, execResetRelease] at hnext
    split_ifs at hnext <;> cases hnext
    · exact startFirstFrame_editLaw (h.of_same rfl rfl)
    · exact h
  | inputLineStart bits clock => exact whileRunning_editLaw h (takeLineStart_editLaw _ _ h) hnext
  | inputPixelWord bits => exact whileRunning_editLaw h (takePixelWord_editLaw _ h) hnext
  | acquireTimerExpiry =>
    simp only [exec, execAcquireTimerExpiry] at hnext
    split at hnext
    · exact whileRunning_editLaw h (h.of_same (by simp) (by simp)) hnext
    · cases hnext; exact h
  | flywheelExpiry =>
    simp only [exec, execFlywheelExpiry] at hnext
    split at hnext
    · exact whileRunning_editLaw h (expireFlywheel_editLaw _ h) hnext
    · cases hnext; exact h
  | internalLineStart => exact whileRunning_editLaw h (paceInternal_editLaw h) hnext
  | holdoverLimit =>
    simp only [exec, execHoldoverLimit] at hnext
    split_ifs at hnext
    · exact whileRunning_editLaw h (nextInternalFrame_editLaw h) hnext
    · cases hnext; exact h
  | editExpiry =>
    simp only [exec, execEditExpiry] at hnext
    split_ifs at hnext
    · exact whileRunning_editLaw h (expireEdit_editLaw h) hnext
    · cases hnext; exact h
  | sfBurstComplete =>
    simp only [exec, execSfBurstComplete] at hnext
    split at hnext
    · split_ifs at hnext
      cases hnext
      exact h.of_same (by simp) (by simp)
    · cases hnext; exact h
  | ceBurstComplete =>
    simp only [exec, execCeBurstComplete] at hnext
    split at hnext
    · split_ifs at hnext
      cases hnext
      exact completeEngineBurst_editLaw _ hrecord h
    · cases hnext; exact h
  | storeChecksComplete =>
    simp only [exec, execStoreChecksComplete] at hnext
    split at hnext
    · rename_i op hop
      split_ifs at hnext <;> cases hnext
      · exact h
      · exact completeChecks_editLaw op h (hrecord.storeOrIdle (Option.isSome_of_mem hop))
    · cases hnext; exact h
  | reportCountdown region =>
    simp only [exec, execReportCountdown] at hnext
    split at hnext
    · split_ifs at hnext
      · exact whileRunning_editLaw h (h.of_same (by simp) (by simp)) hnext
      · cases hnext; exact h
    · cases hnext; exact h
  | commandBegin => exact whileRunning_editLaw h (settleEngine_editLaw h) hnext
  | broadcastCommit p =>
    simp only [exec, execBroadcastCommit] at hnext
    split_ifs at hnext <;> cases hnext
    · exact intakeBroadcast_editLaw _ p h
    · exact h
  | nodeReset broadcast seq p =>
    simp only [exec, execNodeReset] at hnext
    split_ifs at hnext
    · cases hnext; exact intakeBroadcast_editLaw _ p h
    · cases hnext; exact h
    · exact handOver_editLaw h hnext
  | storeClearingDone => cases hnext; exact h.of_same rfl rfl
  | unknownCode | readInfo | readStatus | clearCounters | setNotifyMask | setTiming | editOpen
  | editCloseDiscard | editCloseKeep | editCloseCommit | sequencedCommit | setRegion | setPalette
  | setCue | readRegion | readPalette | readCue | ovlWrite | ovlFill | ovlCopy | ovlRead | setFence
  | readFence | readMeasure | setReport | cancel => exact handOver_editLaw h hnext

/-- Settles O8: a step runs one row, and every row keeps the law. -/
theorem stepKeepsEditLaw : Obligations.StepKeepsEditLaw := by
  unfold Obligations.StepKeepsEditLaw
  intro s t hrecord h hnext
  unfold step at hnext
  split at hnext
  · cases hnext; exact h
  · rename_i c rest _
    exact exec_editLaw (s := { s with pending := rest }) hrecord h hnext

end Sys2Proof.Machine
end

section
/-! Edits and commits row by row: EDIT_OPEN, EDIT_CLOSE, COMMIT, the commit at an activation event, the
expiries, and NODE_RESET (R22 to R36, R134, R178 to R180). -/

namespace Sys2Proof.Machine

/-! ### A command that stays in execution -/

/-- A command of an admitted length that its block keeps is in execution. -/
theorem handOver_stays {s e : State} {seq code : Byte} {p : List Byte} {pr : Progress} {c : Command}
    (h : Ready seq s) (hc : Command.ofCode code = some c) (hp : c.admits p.length = true)
    (hrun : c.run p (s.accepted seq) = (e.accepted seq, .stays pr)) :
    handOver seq code p s = .next (e.executing seq code p pr) := by
  have hcancel : code ≠ cancelCode := by rintro rfl; simp [Command.ofCode, cancelCode] at hc
  have hreset : code ≠ nodeResetCode := by rintro rfl; simp [Command.ofCode, nodeResetCode] at hc
  rw [handOver_ready h hcancel hreset]
  congr 1
  exact beginQueued_stays (by simp only [runSequenced, hc, hp, if_true, hrun])

/-- A payload of one octet holds one field. -/
theorem fieldAt_single (n : Byte) : fieldAt [n] 0 1 = n.toNat := by
  rw [fieldAt_one, octetAt_head]

/-! ### EDIT_OPEN -/

section EditOpen
variable {p : List Byte} {s : State}

theorem runEditOpen_alreadyOpen (hopen : s.ct.editOpen = true) :
    runEditOpen p s = (s, .done .alreadyOpen []) := if_pos hopen

theorem runEditOpen_badField (hopen : s.ct.editOpen = false)
    (hrange : fieldAt p 0 1 < 1 ∨ 64 < fieldAt p 0 1) : runEditOpen p s = (s, .badField 0) := by
  simp only [runEditOpen, hopen, if_pos hrange, Bool.false_eq_true, if_false]

theorem runEditOpen_waits (hopen : s.ct.editOpen = false)
    (hrange : ¬ (fieldAt p 0 1 < 1 ∨ 64 < fieldAt p 0 1)) (hrequest : s.ct.request.isSome = true) :
    runEditOpen p s = (s, .stays .resetCommit) := by
  simp only [runEditOpen, hopen, hrequest, if_neg hrange, if_true, Bool.false_eq_true, if_false]

theorem runEditOpen_opens (hopen : s.ct.editOpen = false)
    (hrange : ¬ (fieldAt p 0 1 < 1 ∨ 64 < fieldAt p 0 1)) (hrequest : s.ct.request = none) :
    runEditOpen p s = (openEdit (fieldAt p 0 1) s, .ok) := by
  simp only [runEditOpen, hopen, hrequest, if_neg hrange, Option.isSome_none, Bool.false_eq_true,
    if_false]

end EditOpen

/-- Settles O25: the checks in their order, then the request. -/
theorem editOpenOutcomes : Obligations.EditOpenOutcomes := by
  unfold Obligations.EditOpenOutcomes
  intro s seq n hready
  have hfield := fieldAt_single n
  refine ⟨fun hopen => ?_, fun hclosed hrange => ?_, fun hclosed hlow hhigh =>
    ⟨fun hrequest => ?_, fun hrequest => ?_⟩⟩
  · exact handOver_done (c := .editOpen) hready rfl rfl (runEditOpen_alreadyOpen hopen)
  · exact handOver_done (c := .editOpen) hready rfl rfl
      (runEditOpen_badField hclosed (by rwa [hfield]))
  · have hopens : runEditOpen [n] (s.accepted seq) = (openEdit n.toNat (s.accepted seq), .ok) :=
      hfield ▸ runEditOpen_opens hclosed (by omega) hrequest
    exact handOver_done (c := .editOpen) hready rfl rfl hopens
  · exact handOver_stays (c := .editOpen) hready rfl rfl
      (runEditOpen_waits hclosed (by omega) (by simp [State.accepted, hrequest]))

/-! ### EDIT_CLOSE -/

/-- Settles O26: one case of the mode octet each. -/
theorem editCloseOutcomes : Obligations.EditCloseOutcomes := by
  unfold Obligations.EditCloseOutcomes
  intro s seq hready hopen hrequest
  have hmode : ∀ p, runEditClose p (s.accepted seq) = _ := fun p => if_pos hopen
  refine ⟨?_, ?_, ?_⟩
  · exact handOver_done (c := .editClose) hready rfl rfl (hmode [0x00])
  · exact handOver_done (c := .editClose) hready rfl rfl (hmode [0x01])
  · refine handOver_stays (c := .editClose) hready rfl rfl ((hmode [0x02]).trans ?_)
    simp [fieldAt_single, requestCommit, State.accepted, State.withCt, State.withCe, hrequest]

/-! ### COMMIT -/

theorem runCommit_open {s : State} (hopen : s.ct.editOpen = true) :
    runCommit s = (s, .done .editIsOpen []) := if_pos hopen

theorem runCommit_closed {s : State} (hclosed : s.ct.editOpen = false) :
    runCommit s = (requestCommit s, .stays .commit) := if_neg (by simp [hclosed])

/-- A broadcast COMMIT handed over while the engine is ready begins at once (R167, R169). -/
theorem broadcastCommit_ready {s : State} {seq : Byte} (h : Ready seq s) :
    exec (.broadcastCommit []) s = .next (beginQueued ⟨false, 0, commitCode, []⟩ s) := by
  obtain ⟨hreset, hclearing, -, -, hexec, hop, hqueue, -, -⟩ := h
  have hreachable : s.reachable = true := by simp [State.reachable, hreset, hclearing]
  have htaken : intakeBroadcastCommit [] s =
      s.withCe { s.ce with queue := [⟨false, 0, commitCode, []⟩] } := by
    simp [intakeBroadcastCommit, CommandEngine.placeFree, Config.commandPlaces, hqueue]
  have hsame : s.withCe { s.ce with queue := [] } = s := by rw [← hqueue]; rfl
  simp only [exec, execBroadcastCommit, if_pos hreachable, intakeBroadcast]
  rw [if_neg (by decide), htaken]
  congr 1
  simp only [settleEngine, settleActs, State.withCe_ce, List.length_singleton, List.replicate_one,
    runActs_cons, runActs_nil, beginNext]
  rw [if_pos (by simp [canBegin, hexec, hop])]
  exact congrArg _ hsame

/-- Settles O27. -/
theorem commitOutcomes : Obligations.CommitOutcomes := by
  unfold Obligations.CommitOutcomes
  intro s seq hready
  refine ⟨fun hopen => ⟨?_, ?_⟩, ?_⟩
  · exact handOver_done (c := .commit) hready rfl rfl (runCommit_open hopen)
  · rw [broadcastCommit_ready hready]
    simp [beginQueued, runBroadcastCommit, hopen]
  · rintro hclosed o rfl
    refine ⟨?_, ?_⟩
    · exact handOver_stays (c := .commit) hready rfl rfl (runCommit_closed hclosed)
    · rw [broadcastCommit_ready hready]
      simp [beginQueued, runBroadcastCommit, hclosed, requestCommit, State.withCt, State.withCe,
        commitCode]

/-! ### The commit at an activation event -/

/-- With a commit requested and no command queued, an activation event is the commit alone. -/
theorem activationEvent_commits {s : State} (hclosed : s.ct.editOpen = false)
    (hrequest : s.ct.request.isSome = true) (hqueue : s.ce.queue = []) :
    activationEvent s = commitNow s := by
  simp [activationEvent, activationActs, settleActs, hclosed, hrequest, hqueue]

/-- A sequenced command that completes is answered; its blocks keep their state. -/
theorem completeCommand_sequenced {s : State} {q : Queued} {pr : Progress} {st : Status}
    {d : List Byte} (hexec : s.ce.exec = some ⟨q, pr⟩) (hq : q.sequenced = true) :
    completeCommand st d s = s.completed q st d := by
  simp [completeCommand, hexec, hq, endExecution, answer, queueResponse, cacheResponse,
    State.completed, State.withCe, Config.commandPlaces]

/-- What commit-applied finds: the banks alike, the request absent, the engine and the output as they
were (R30). -/
theorem commitNow_eq (s : State) : ∃ u, commitNow s = takeCommitApplied u ∧
    u.ct = { s.ct with activeSet := s.ct.pendingSet, request := none } ∧ u.ce = s.ce ∧
    u.out = s.out ∧ u.mlu = s.mlu :=
  ⟨_, rfl, by simp [applyCommit], by simp, by simp, by simp⟩

/-- Settles O28: the commit is applied, then the command that waits for it is completed. -/
theorem commitIsAppliedAtActivation : Obligations.CommitIsAppliedAtActivation := by
  unfold Obligations.CommitIsAppliedAtActivation
  intro s q o hclosed hrequest hqueue hq
  rw [activationEvent_commits hclosed (by simp [hrequest]) hqueue]
  obtain ⟨u, heq, hct, hce, hout, hmlu⟩ := commitNow_eq s
  rw [heq]
  refine ⟨fun hexec => ?_, fun hexec => ?_⟩
  · have hu : u.ce.exec = some ⟨q, .commit⟩ := by rw [hce, hexec]
    have htaken : takeCommitApplied u = u.completed q .ok (toOctets 2 u.out.counter.toNat) := by
      simp only [takeCommitApplied, hu]
      exact completeCommand_sequenced hu hq
    rw [htaken]
    exact ⟨hct, by simp [State.completed, hce, hout, hmlu]⟩
  · have hu : u.ce.exec = some ⟨q, .resetCommit⟩ := by rw [hce, hexec]
    have htaken : takeCommitApplied u = (openEdit (fieldAt q.payload 0 1) u).completed q .ok [] := by
      simp only [takeCommitApplied, hu]
      exact completeCommand_sequenced hu hq
    rw [htaken]
    exact ⟨by simp [State.completed, openEdit, hct], by simp [State.completed, hce, hmlu]⟩

/-! ### Last counts -/

/-- While RESET is high a row has its effect. -/
theorem whileRunning_high {effect : State → State} {s : State} (h : s.resetLow = false) :
    whileRunning effect s = .next (effect s) := if_neg (by simp [h])

/-- At the last count of a countdown the record is reported and the countdown reloads (R134). -/
theorem latchReport_last {i : Nat} (m : Measurement) {s : State}
    (hinterval : (s.mon.monitor i).interval ≠ 0) (hcount : (s.mon.monitor i).countdown ≤ 1) :
    latchReport i m s = offerWith m.frame (.measure i m)
      (s.setMonitor i { s.mon.monitor i with countdown := (s.mon.monitor i).interval }) := by
  simp only [latchReport, if_neg hinterval, if_pos hcount]

/-- Settles O29: each row performs its occurrence at the last count. -/
theorem expiriesActAtLastCount : Obligations.ExpiriesActAtLastCount := by
  unfold Obligations.ExpiriesActAtLastCount
  refine ⟨fun s hreset hopen htimer => ?_, fun s i m r hreset hr hrecord hcount hinterval => ?_⟩
  · have hlast : s.ct.editOpen = true ∧ s.ct.timer ≤ 1 := ⟨hopen, htimer.le⟩
    exact (if_pos hlast).trans (whileRunning_high hreset)
  · subst hr
    have hrow : exec (.reportCountdown i) s = .next (latchReport i m s) := by
      simp only [exec, execReportCountdown, hrecord, if_pos hcount.le, whileRunning_high hreset]
    rw [hrow, latchReport_last m (by omega) hcount.le]
    rfl

/-! ### NODE_RESET -/

/-- What NODE_RESET leaves with no store operation in progress (R178, R179). -/
theorem performReset_eq {s : State} (hop : s.os.op = none) : performReset s = { s with
    ct := { s.ct with pendingSet := .default, editOpen := false, timer := 0, request := some .reset }
    rtu := { s.rtu with params := .default, lockLosses := 0 }
    sf := { s.sf with underruns := List.replicate 16 0, reported := List.replicate 16 false }
    os := { s.os with fences := List.replicate 4 .default }
    mon := .initial
    mlu := { s.mlu with crcErrors := 0, framingErrors := 0, notForwarded := 0, misaddressed := 0 }
    ce := .initial
    nq := .initial } := by
  obtain ⟨pending, resetLow, now, free, ct, rtu, out, comp, sf, os, mon, mlu, ce, nq⟩ := s
  obtain ⟨cells, clearing, sfWaiting, ceWaiting, busy, op, fences⟩ := os
  obtain rfl : op = none := hop
  rfl

theorem intakeAddressed_nodeReset (seq : Byte) (p : List Byte) (s : State) :
    intakeAddressed seq nodeResetCode p s = intakeReset seq p s := by
  rw [intakeAddressed, if_neg (by decide), if_pos rfl]

/-- With the slot free and no payload an immediate command takes effect (R168). -/
theorem intakeImmediate_free {effect : State → State} {s : State} (seq code : Byte)
    (h : s.ce.slot = .free) :
    intakeImmediate effect seq code [] s = effect (s.withCe { s.ce with slot := .reserved }) := by
  simp only [intakeImmediate, if_pos h, if_true]

/-- Settles O40: the broadcast row is the reset itself, the addressed one fills the emptied slot. -/
theorem nodeResetLeavesDefaults : Obligations.NodeResetLeavesDefaults := by
  unfold Obligations.NodeResetLeavesDefaults
  rintro s t seq hreset hclearing hop rfl
  refine ⟨?_, fun hlow hhigh hslot => ?_⟩
  · have hreachable : s.reachable = true := by simp [State.reachable, hreset, hclearing]
    simp only [exec, execNodeReset, if_true, if_pos hreachable, intakeBroadcast, intakeBroadcastReset,
      performReset_eq hop]
  · have haddressable := addressable_iff.2 ⟨hreset, hclearing, hlow, hhigh⟩
    simp only [exec, execNodeReset, Bool.false_eq_true, if_false, handOver, if_pos haddressable,
      intakeAddressed_nodeReset, intakeReset, intakeImmediate_free _ _ hslot]
    rw [performReset_eq (s := s.withCe { s.ce with slot := .reserved }) hop]
    rfl

end Sys2Proof.Machine
end

section
/-! CANCEL: what it answers and leaves, and the counts of an operation that it ends (R104, R117, R175 to
R177). -/

namespace Sys2Proof.Machine

/-! ### Steps clipped whole -/

/-- Every octet of step `n` is masked by a CLIP fence (R104). -/
def StoreOp.ClippedStep (op : StoreOp) (n : Nat) : Prop :=
  ∀ k < (op.params.targetRun n).2, clippedBy op.fences ((op.params.targetRun n).1 + k) = true

/-- The octets of the steps from `m` on. -/
def StoreParams.octetsFrom (p : StoreParams) (m : Nat) : Nat :=
  (((List.range p.steps).filter fun n => decide (m ≤ n)).map fun n => (p.targetRun n).2).sum

theorem clippedIn_eq_iff (fences : List Fence) (a len : Nat) :
    clippedIn fences a len = len ↔ ∀ k < len, clippedBy fences (a + k) = true := by
  have h := List.countP_eq_length (l := List.range len) (p := fun k => clippedBy fences (a + k))
  simpa [clippedIn] using h

theorem filter_range_le (m n : Nat) (h : m ≤ n) :
    (List.range n).filter (fun k => decide (m ≤ k)) = List.range' m (n - m) := by
  obtain ⟨d, rfl⟩ := Nat.exists_eq_add_of_le h
  have hbelow : (List.range m).filter (fun k => decide (m ≤ k)) = [] := by
    simp [List.filter_eq_nil_iff]
  rw [List.range_add, List.filter_append, hbelow, List.nil_append, Nat.add_sub_cancel_left,
    List.range'_eq_map_range, List.filter_eq_self.2 (by simp)]

theorem StoreParams.octetsFrom_end (p : StoreParams) : p.octetsFrom p.steps = 0 := by
  rw [StoreParams.octetsFrom, filter_range_le _ _ le_rfl, Nat.sub_self]
  rfl

theorem StoreParams.octetsFrom_step (p : StoreParams) {m : Nat} (h : m < p.steps) :
    p.octetsFrom m = (p.targetRun m).2 + p.octetsFrom (m + 1) := by
  obtain ⟨d, hd⟩ := Nat.exists_eq_add_of_lt h
  rw [StoreParams.octetsFrom, StoreParams.octetsFrom, filter_range_le _ _ h.le,
    filter_range_le _ _ h, hd, show m + d + 1 - m = d + 1 by omega,
    show m + d + 1 - (m + 1) = d by omega, List.range'_succ, List.map_cons, List.sum_cons]

/-- All steps from `m` on are clipped whole. -/
def StoreOp.RestClipped (op : StoreOp) (m : Nat) : Prop :=
  ∀ n < op.params.steps, m ≤ n → op.ClippedStep n

theorem StoreOp.restClipped_end (op : StoreOp) : op.RestClipped op.params.steps :=
  fun _ hn hle => absurd hle (by omega)

theorem StoreOp.restClipped_step {op : StoreOp} {m : Nat} (h : m < op.params.steps) :
    op.RestClipped m ↔ op.ClippedStep m ∧ op.RestClipped (m + 1) := by
  refine ⟨fun hall => ⟨hall m h le_rfl, fun n hn hle => hall n hn (by omega)⟩,
    fun ⟨hnow, hrest⟩ n hn hle => ?_⟩
  rcases Nat.eq_or_lt_of_le hle with rfl | hlt
  · exact hnow
  · exact hrest n hn hlt

/-- Passing over clipped steps reaches the end, with every octet counted, exactly when all that is left is
clipped whole. -/
theorem StoreOp.passClipped_outcome {op : StoreOp} {fuel : Nat} (hw : op.params.writes = true)
    (hnext : op.next ≤ op.params.steps) (hfuel : op.params.steps ≤ op.next + fuel) :
    op.RestClipped op.next ∧ (op.passClipped fuel).next = op.params.steps ∧
      (op.passClipped fuel).clipped = op.clipped + op.params.octetsFrom op.next ∨
    ¬ op.RestClipped op.next ∧ (op.passClipped fuel).next < op.params.steps := by
  induction fuel generalizing op with
  | zero =>
    have hlast : op.next = op.params.steps := by omega
    exact .inl ⟨hlast ▸ op.restClipped_end, hlast,
      by rw [hlast, StoreParams.octetsFrom_end]; rfl⟩
  | succ fuel ih =>
    simp only [StoreOp.passClipped, hw, true_and, clippedIn_eq_iff]
    split_ifs with hstep
    · obtain ⟨hlt, hclip⟩ := hstep
      have hrest : op.RestClipped op.next ↔ op.RestClipped (op.next + 1) :=
        (op.restClipped_step hlt).trans (and_iff_right hclip)
      rw [hrest, StoreParams.octetsFrom_step _ hlt, ← Nat.add_assoc]
      exact ih (op := { op with
        next := op.next + 1
        clipped := op.clipped + (op.params.targetRun op.next).2 }) hw hlt (by dsimp only; omega)
    · rcases Nat.eq_or_lt_of_le hnext with hlast | hlt
      · exact .inl ⟨hlast ▸ op.restClipped_end, hlast, by rw [hlast, StoreParams.octetsFrom_end]; rfl⟩
      · exact .inr ⟨fun hall => hstep ⟨hlt, hall _ hlt le_rfl⟩, hlt⟩

/-- An operation ended at its granted write burst counts what is left, if that is clipped whole (R104,
R117). -/
theorem StoreOp.whenEnded_clipped {op : StoreOp} (hw : op.params.writes = true)
    (hnext : op.next < op.params.steps) :
    op.RestClipped (op.next + 1) ∧
      op.whenEnded.clipped = op.clipped + op.params.octetsFrom (op.next + 1) ∨
    ¬ op.RestClipped (op.next + 1) ∧ op.whenEnded.clipped = op.clipped := by
  have hsettled : ({ op with next := op.next + 1 } : StoreOp).settled.params = op.params := by
    obtain ⟨k, c, h⟩ := StoreOp.settled_moves { op with next := op.next + 1 }
    rw [h]
  obtain ⟨hall, hlast, hclipped⟩ | ⟨hsome, hbefore⟩ :=
    StoreOp.passClipped_outcome (op := { op with next := op.next + 1 }) (fuel := op.params.steps) hw
      hnext (by dsimp only; omega)
  · refine .inl ⟨hall, ?_⟩
    simp only [StoreOp.whenEnded, hsettled]
    rw [if_neg (by rw [StoreOp.settled, hlast]; simp)]
    exact hclipped
  · refine .inr ⟨hsome, ?_⟩
    simp only [StoreOp.whenEnded, hsettled]
    rw [if_pos (by exact hbefore)]

/-! ### Answers to cancelled commands -/

/-- The engine alone has changed. -/
def OnlyEngine (s t : State) : Prop := t = s.withCe t.ce

theorem OnlyEngine.trans {s t u : State} (h : OnlyEngine s t) (k : OnlyEngine t u) :
    OnlyEngine s u := by
  rw [OnlyEngine, k, h]
  rfl

theorem withCe_onlyEngine (s : State) (ce : CommandEngine) : OnlyEngine s (s.withCe ce) := rfl

theorem answer_onlyEngine (q : Queued) (st : Status) (d : List Byte) (s : State) :
    OnlyEngine s (answer q st d s) := rfl

/-- The CANCELLED responses to commands removed from the queue (R173, R176). -/
def removedResponses (removed : List Queued) (line : Nat) : List Response :=
  removed.map fun w => ⟨w.seq, w.code, .cancelled, false, removedData w, false, line⟩

/-- Removed commands are answered in order, and the rest of the engine but its cache and reservations
stays. -/
theorem answers_cancelled (l : List Queued) (s : State) :
    let t := l.foldl (fun t q => answer q .cancelled (removedData q) t) s
    OnlyEngine s t ∧ t.ce.responses = s.ce.responses ++ removedResponses l s.mlu.assembled ∧
      t.ce.queue = s.ce.queue ∧ t.ce.exec = s.ce.exec ∧ t.ce.lastSeq = s.ce.lastSeq := by
  induction l generalizing s with
  | nil => exact ⟨rfl, by simp [removedResponses], rfl, rfl, rfl⟩
  | cons q l ih =>
    obtain ⟨honly, hresponses, hqueue, hexec, hlast⟩ := ih (answer q .cancelled (removedData q) s)
    refine ⟨(answer_onlyEngine ..).trans honly, hresponses.trans ?_, hqueue, hexec, hlast⟩
    simp [answer, queueResponse, cacheResponse, removedResponses]

/-- With nothing queued nothing begins. -/
theorem settleEngine_empty {s : State} (h : s.ce.queue = []) : settleEngine s = s := by
  simp [settleEngine, settleActs, h]

/-- What a CANCEL that completes leaves, with the queue empty and a sequenced command in execution: that
command, those removed and the CANCEL are answered in this order (R176). -/
structure Cancelled (c : CancelWait) (q : Queued) (d : List Byte) (s t : State) : Prop where
  only : OnlyEngine s t
  exec : t.ce.exec = none
  queue : t.ce.queue = []
  slot : t.ce.slot = .filled
  lastSeq : t.ce.lastSeq = s.ce.lastSeq
  responses : t.ce.responses = s.ce.responses ++
    [⟨q.seq, q.code, .cancelled, false, d, false, s.mlu.assembled⟩] ++
    removedResponses c.removed s.mlu.assembled ++
    [⟨c.seq, c.code, .ok, false, [octet (1 + c.removed.length)], true, s.mlu.assembled⟩]

theorem completeCancel_cancelled (c : CancelWait) {q : Queued} {pr : Progress} (d : List Byte)
    {s : State} (hexec : s.ce.exec = some ⟨q, pr⟩) (hq : q.sequenced = true)
    (hqueue : s.ce.queue = []) : Cancelled c q d s (completeCancel c d s) := by
  have hdone : completeCommand .cancelled d s = answer q .cancelled d (endExecution s) := by
    simp only [completeCommand, hexec, hq, if_true]
  obtain ⟨honly, hresponses, hempty, hnone, hlast⟩ :=
    answers_cancelled c.removed (answer q .cancelled d (endExecution s))
  simp only [completeCancel, hexec, hq, if_true, hdone]
  generalize c.removed.foldl (fun t q => answer q .cancelled (removedData q) t)
    (answer q .cancelled d (endExecution s)) = t at honly hresponses hempty hnone hlast ⊢
  have hmlu : t.mlu = s.mlu := by rw [honly]; rfl
  rw [settleEngine_empty (by exact hempty.trans hqueue)]
  exact {
    only := ((withCe_onlyEngine s _).trans ((answer_onlyEngine ..).trans honly)).trans rfl
    exec := hnone
    queue := hempty.trans hqueue
    slot := rfl
    lastSeq := hlast
    responses := by
      simp [queueResponse, hresponses, answer, cacheResponse, endExecution, hmlu] }

/-! ### The row -/

theorem intakeAddressed_cancel (seq : Byte) (p : List Byte) (s : State) :
    intakeAddressed seq cancelCode p s = intakeCancel seq p s := if_pos rfl

/-- An addressed CANCEL without payload is performed, its slot reserved (R168, R175). -/
theorem exec_cancel_free {s : State} {seq : Byte} (haddress : s.addressable = true)
    (hslot : s.ce.slot = .free) : exec (.cancel seq []) s =
      .next (performCancel seq cancelCode (s.withCe { s.ce with slot := .reserved })) := by
  simp only [exec, execCancel, handOver, if_pos haddress, intakeAddressed_cancel, intakeCancel,
    intakeImmediate_free _ _ hslot]

/-- The codes of the commands that write the store (R197). -/
theorem Command.ofCode_writes (code : Byte) :
    (Command.ofCode code = some .ovlWrite ↔ code.toNat = 0x30) ∧
    (Command.ofCode code = some .ovlFill ↔ code.toNat = 0x31) ∧
    (Command.ofCode code = some .ovlCopy ↔ code.toNat = 0x32) := by
  unfold Command.ofCode
  split <;> simp_all

/-- The octets of CANCELLED for a removed command, by its code (R198). -/
theorem removedData_eq (q : Queued) :
    removedData q = if q.code.toNat ∈ [0x30, 0x31, 0x32] then [0, 0, 0, 0, 0, 0] else [] := by
  have hzero : toOctets 3 0 ++ toOctets 3 0 = [0, 0, 0, 0, 0, 0] := by decide
  obtain ⟨hwrite, hfill, hcopy⟩ := Command.ofCode_writes q.code
  unfold removedData
  split
  · rename_i h
    rw [hzero, if_pos (by simp [hwrite.1 h])]
  · rename_i h
    rw [hzero, if_pos (by simp [hfill.1 h])]
  · rename_i h
    rw [hzero, if_pos (by simp [hcopy.1 h])]
  · rename_i h1 h2 h3
    rw [if_neg]
    simp only [List.mem_cons, List.not_mem_nil, or_false, not_or]
    exact ⟨mt hwrite.2 h1, mt hfill.2 h2, mt hcopy.2 h3⟩

/-- A CANCEL with nothing to end answers at once (R175). -/
theorem performCancel_nothing {s : State} {seq code : Byte} (hexec : s.ce.exec = none)
    (hqueue : s.ce.queue = []) : performCancel seq code s = s.withCe { s.ce with
      slot := .filled, cancel := none
      responses := s.ce.responses ++
        [⟨seq, code, .ok, false, [octet 0], true, s.mlu.assembled⟩] } := by
  have hidle : completeCommand .cancelled [] s = s := by simp [completeCommand, hexec]
  have hsame : s.withCe { s.ce with queue := [] } = s := by rw [← hqueue]; rfl
  simp only [performCancel, hqueue, List.filter_nil, hsame]
  simp only [hexec, completeCancel, hidle, List.foldl_nil, List.length_nil]
  rw [settleEngine_empty (by exact hqueue)]
  simp [queueResponse, State.withCe, hexec, hqueue]

/-- A CANCEL that finds a sequenced commit command waiting withdraws its request, but for one of origin
RESET (R35, R176). -/
theorem performCancel_commit {s : State} {q : Queued} {seq code : Byte}
    (hexec : s.ce.exec = some ⟨q, .commit⟩) (hq : q.sequenced = true) :
    Cancelled ⟨seq, code, s.ce.queue.filter Queued.sequenced⟩ q []
      (s.withCt { s.ct with
        request := if s.ct.request = some .command then none else s.ct.request })
      (performCancel seq code s) := by
  have hcancel := completeCancel_cancelled ⟨seq, code, s.ce.queue.filter Queued.sequenced⟩ (d := [])
    (s := (s.withCe { s.ce with queue := [] }).withCt { s.ct with
      request := if s.ct.request = some .command then none else s.ct.request }) hexec hq rfl
  obtain ⟨honly, hnone, hqueue, hslot, hlast, hresponses⟩ := hcancel
  have heq : performCancel seq code s = completeCancel
      ⟨seq, code, s.ce.queue.filter Queued.sequenced⟩ []
      ((s.withCe { s.ce with queue := [] }).withCt { s.ct with
        request := if s.ct.request = some .command then none else s.ct.request }) := by
    simp only [performCancel, State.withCe_ce, hexec]
    rfl
  rw [heq]
  exact ⟨honly, hnone, hqueue, hslot, hlast, hresponses⟩

/-- A CANCEL that finds a burst of a store operation granted marks the operation and waits (R117, R176). -/
theorem performCancel_granted {s : State} {q : Queued} {op : StoreOp} {r : BurstRequest}
    {discard : Bool} {seq code : Byte} (hexec : s.ce.exec = some ⟨q, .store⟩)
    (hqueue : s.ce.queue = []) (hop : s.os.op = some op) (hbusy : s.os.busy = some ⟨.ce, r, discard⟩) :
    performCancel seq code s =
      (s.withOs { s.os with op := some { op with ending := true } }).withCe
        { s.ce with cancel := some ⟨seq, code, []⟩ } := by
  have hsame : s.withCe { s.ce with queue := [] } = s := by rw [← hqueue]; rfl
  have hcut : cutOperation s = (s.withOs { s.os with op := some { op with ending := true } }, true) := by
    simp only [cutOperation, hop, hbusy]
  simp only [performCancel, hqueue, List.filter_nil, hsame]
  simp only [hexec, hqueue, hcut, if_true, State.withOs_ce]

@[simp] theorem OverlayStore.grant_op (o : OverlayStore) : o.grant.op = o.op := by
  unfold OverlayStore.grant; split <;> rfl

@[simp] theorem grantStore_op (s : State) : (grantStore s).os.op = s.os.op := by
  simp [grantStore]

/-- The operation with the octets of its granted write burst counted (R104, R109). -/
def StoreOp.afterWrite (op : StoreOp) (r : BurstRequest) : StoreOp :=
  { op with
    written := op.written + (r.len - clippedIn op.fences r.addr r.len)
    clipped := op.clipped + clippedIn op.fences r.addr r.len
    held := [] }

/-- A granted write burst of the operation in the record completes (R99). -/
theorem exec_ceBurst_write {s : State} {op : StoreOp} {r : BurstRequest} {discard : Bool}
    (hbusy : s.os.busy = some ⟨.ce, r, discard⟩) (hop : s.os.op = some op) (hwrite : r.write = true)
    (hstore : r.addr + r.len ≤ 1048576) : exec .ceBurstComplete s =
      .next (grantStore (completeWrite op r (s.withOs { s.os with busy := none }))) := by
  have hin : r.inStore = true := decide_eq_true hstore
  simp only [exec, execCeBurstComplete, hbusy, hin, if_true, completeEngineBurst, State.withOs_os, hop,
    hwrite]

/-- An ended operation goes no further than its granted write burst (R117). -/
theorem completeWrite_ended {op : StoreOp} (r : BurstRequest) (s : State) (h : op.ending = true) :
    completeWrite op r s = endOperation (op.afterWrite r).whenEnded (s.withOs { s.os with
      cells := Memory.writeMasked (clippedBy op.fences) s.os.cells r.addr (op.burstData r.len) }) :=
  if_pos h

/-- The CANCEL that waits for an ended write operation completes with its counts (R117, R176). -/
theorem endOperation_cancelled {op : StoreOp} {c : CancelWait} {s : State}
    (hcancel : s.ce.cancel = some c) (hwrites : op.params.writes = true) :
    endOperation op s = completeCancel c op.counts (emptyRecord s) := by
  simp only [endOperation, emptyRecord_keeps, hcancel, cancelledData, hwrites, if_true]

theorem removedResponses_eq (l : List Queued) (line : Nat) : removedResponses l line =
    l.map fun w => ⟨w.seq, w.code, .cancelled, false,
      if w.code.toNat ∈ [0x30, 0x31, 0x32] then [0, 0, 0, 0, 0, 0] else [], false, line⟩ := by
  simp only [removedResponses, removedData_eq]

/-- The counts that a CANCEL answers for a write operation ended at its granted burst: what is clipped
whole behind that burst counts if all that is left is (R104, R117; log 33). -/
theorem counts_whenEnded {op : StoreOp} {r : BurstRequest} (hwrites : op.params.writes = true)
    (hnext : op.next < op.params.steps) :
    (op.afterWrite r).whenEnded.counts =
      toOctets 3 (op.written + (r.len - clippedIn op.fences r.addr r.len)) ++
        toOctets 3 (op.clipped + clippedIn op.fences r.addr r.len +
          if ∀ n < op.params.steps, op.next < n → ∀ k < (op.params.targetRun n).2,
              clippedBy op.fences ((op.params.targetRun n).1 + k) = true then
            (((List.range op.params.steps).filter (fun n => decide (op.next < n))).map
              fun n => (op.params.targetRun n).2).sum
          else 0) := by
  rw [StoreOp.counts, StoreOp.whenEnded_written]
  obtain ⟨hall, hclipped⟩ | ⟨hsome, hclipped⟩ :=
    StoreOp.whenEnded_clipped (op := op.afterWrite r) hwrites hnext
  · rw [hclipped, if_pos (by exact hall)]
    rfl
  · rw [hclipped, if_neg (by exact hsome)]
    rfl

/-- The granted write burst of an ended operation completes, and with it the CANCEL that waits for it: the
operation is answered with its counts, then the CANCEL (R117, R176). -/
theorem exec_ceBurst_cancelled {s : State} {q : Queued} {pr : Progress} {op : StoreOp}
    {r : BurstRequest} {discard : Bool} {seq code : Byte} (hexec : s.ce.exec = some ⟨q, pr⟩)
    (hq : q.sequenced = true) (hqueue : s.ce.queue = [])
    (hcancel : s.ce.cancel = some ⟨seq, code, []⟩) (hop : s.os.op = some op)
    (hending : op.ending = true) (hwrites : op.params.writes = true)
    (hbusy : s.os.busy = some ⟨.ce, r, discard⟩) (hwrite : r.write = true)
    (hstore : r.addr + r.len ≤ 1048576) :
    ∃ u, exec .ceBurstComplete s = .next u ∧ u.os.op = none ∧ u.ce.exec = none ∧
      u.ce.slot = .filled ∧ u.ce.responses = s.ce.responses ++
        [⟨q.seq, q.code, .cancelled, false, (op.afterWrite r).whenEnded.counts, false,
          s.mlu.assembled⟩, ⟨seq, code, .ok, false, [1], true, s.mlu.assembled⟩] := by
  have hcomplete : ∀ (v : State) (d : List Byte), v.ce = s.ce → v.mlu = s.mlu → v.os.op = none →
      let u := grantStore (completeCancel ⟨seq, code, []⟩ d v)
      u.os.op = none ∧ u.ce.exec = none ∧ u.ce.slot = .filled ∧ u.ce.responses = s.ce.responses ++
        [⟨q.seq, q.code, .cancelled, false, d, false, s.mlu.assembled⟩,
          ⟨seq, code, .ok, false, [1], true, s.mlu.assembled⟩] := by
    intro v d hce hmlu hempty
    obtain ⟨honly, hnone, -, hfilled, -, hresponses⟩ := completeCancel_cancelled
      ⟨seq, code, []⟩ d (hce ▸ hexec) hq (hce ▸ hqueue)
    refine ⟨?_, by simpa using hnone, by simpa using hfilled, ?_⟩
    · rw [grantStore_op, honly]
      exact hempty
    · simpa [removedResponses, hce, hmlu, octet] using hresponses
  rw [exec_ceBurst_write hbusy hop hwrite hstore, completeWrite_ended r _ hending,
    endOperation_cancelled (c := ⟨seq, code, []⟩) (by exact hcancel)
      (by rw [StoreOp.whenEnded_params]; exact hwrites)]
  exact ⟨_, rfl, hcomplete _ _ rfl rfl rfl⟩

/-- Settles O39: by the state of the engine that the CANCEL finds. -/
theorem cancelEndsWaitingCommands : Obligations.CancelEndsWaitingCommands := by
  unfold Obligations.CancelEndsWaitingCommands
  intro s seq hreset hclearing hlow hhigh hslot
  rw [exec_cancel_free (addressable_iff.2 ⟨hreset, hclearing, hlow, hhigh⟩) hslot]
  refine ⟨fun hexec hqueue => ?nothing, fun q hexec hq => ?commit,
    fun op q r discard clipped hexec hq hqueue hop _ _ hwrites hbusy hwrite hstore hnext _ hclipped =>
      ?granted⟩
  case nothing =>
    rw [performCancel_nothing (by exact hexec) (by exact hqueue)]
    rfl
  case commit =>
    obtain ⟨honly, hnone, hempty, hfilled, hlast, hresponses⟩ :=
      performCancel_commit (s := s.withCe { s.ce with slot := .reserved }) (seq := seq)
        (code := cancelCode) hexec hq
    rw [removedResponses_eq] at hresponses
    exact ⟨_, rfl, hnone, hempty, hfilled, hlast, hresponses, honly⟩
  case granted =>
    obtain ⟨t, ht, hce, hos, hmlu⟩ : ∃ t,
        performCancel seq cancelCode (s.withCe { s.ce with slot := .reserved }) = t ∧
        t.ce = { s.ce with slot := .reserved, cancel := some ⟨seq, cancelCode, []⟩ } ∧
        t.os = { s.os with op := some { op with ending := true } } ∧ t.mlu = s.mlu :=
      ⟨_, performCancel_granted (s := s.withCe { s.ce with slot := .reserved }) hexec hqueue hop hbusy,
        rfl, rfl, rfl⟩
    obtain ⟨u, hburst, hrecord, hnone, hfilled, hresponses⟩ := exec_ceBurst_cancelled (s := t)
      (op := { op with ending := true }) (by rw [hce]; exact hexec) hq (by rw [hce]; exact hqueue) (by rw [hce]) (by rw [hos]) rfl hwrites
      (by rw [hos]; exact hbusy) hwrite hstore
    rw [counts_whenEnded (by exact hwrites) (by exact hnext), hce, hmlu] at hresponses
    subst hclipped
    exact ⟨t, u, by rw [ht], hburst, by rw [hce], by rw [hce], hrecord, hnone, hfilled, hresponses⟩

end Sys2Proof.Machine
end

section
/-! The lines of an internal frame: BLANK lines, ACTIVE lines, and the activation event before the first
ACTIVE line (R30, R32, R54 to R56, R62, R63, R67, R76, R81, R123). -/

namespace Sys2Proof.Machine

/-! ### Pacing -/

/-- Within an internal frame the next line starts at its place in the frame period (R54). -/
theorem exec_internalLineStart_within {s : State} (hreset : s.resetLow = false)
    (hrunning : s.out.running = true) (htimed : s.out.inputTimed = false)
    (hline : s.out.line + 1 < s.out.geometry.total) : exec .internalLineStart s =
      .next (internalLine (s.out.line + 1) [] (s.advanceTo (s.out.startedAt +
        (s.out.line + 1) * s.out.period / s.out.geometry.total * 1000))) := by
  have hboundary : atFrameBoundary s = false := by
    simp only [atFrameBoundary, hrunning, Bool.not_true, Bool.false_or, decide_eq_false_iff_not]
    omega
  refine (whileRunning_high hreset).trans ?_
  simp only [paceInternal, hrunning, htimed, hboundary, Bool.and_false, Bool.false_eq_true, if_false]

theorem internalKind_active {g : Geometry} {i : Nat} (hi : i ≠ 0) (hfrom : g.firstActive ≤ i)
    (hto : i < g.firstActive + g.active) : internalKind g i = .active := by
  rw [internalKind, if_neg hi, if_pos ⟨hfrom, hto⟩]

theorem internalKind_blank {g : Geometry} {i : Nat} (hmgmt : g.mgmt < i)
    (hout : i < g.firstActive ∨ g.firstActive + g.active ≤ i) : internalKind g i = .blank := by
  rw [internalKind, if_neg (by omega), if_neg (by omega), if_neg (by omega)]

/-! ### BLANK lines -/

/-- A BLANK line carries black words, behind the events of its line start (R62). -/
theorem internalLine_blank {s : State} {i : Nat} {activation : Bool} (hi : i ≠ 0)
    (hkind : internalKind s.out.geometry i = .blank)
    (hactivation : decide (i + 1 = s.out.geometry.firstActive) = activation) :
    internalLine i [] s =
      setTx (startWord .blank false :: List.replicate s.out.geometry.width 0)
        (lineEvents activation [] (s.withOut { s.out with line := i })) := by
  have hblack : pixelWord Colour.black.pixel = 0 := by decide
  have hwords : (internalWords s i).map pixelWord = List.replicate s.out.geometry.width 0 := by
    simp only [internalWords, hkind, List.map_replicate, hblack]
  simp only [internalLine, hkind, outputLineStart, sendPixels, hwords, decide_eq_false hi,
    hactivation]

/-- Away from the frame end and the activation event a line start has no event. -/
theorem lineEvents_none {s : State} (h : frameEndDue s = false) : lineEvents false [] s = s := by
  simp [lineEvents, lineEventActs, dueFrameEndActs, h]

/-- With no frame end due and no activation event yet in the frame, the line start is an activation event
(R56). -/
theorem lineEvents_activation {s : State} (h : frameEndDue s = false)
    (hactivated : s.out.activated = false) : lineEvents true [] s =
      activationEvent (s.withOut { s.out with activated := true }) := by
  simp only [lineEvents, lineEventActs, dueFrameEndActs, h, dueActivationActs, hactivated,
    Bool.false_eq_true, if_false, if_true, List.nil_append, interleaved_nil_right, runActs_cons]
  rfl

/-! ### ACTIVE lines -/

/-- A legal colour is read back from its pixel word. -/
theorem pixelColour_pixel {c : Colour} (h : c.Legal) : pixelColour c.pixel = c := by
  have hlt := Colour.packed_lt h
  rw [pixelColour, Colour.pixel, BitVec.toNat_ofNat, Nat.mod_eq_of_lt (by omega), colourOf_packed h]

/-- A pixel is composed from the active bank, the geometry, the cue mask and the showing buffer. -/
theorem composePixel_congr {s t : State} (hbank : t.ct.activeSet = s.ct.activeSet)
    (hgeometry : t.out.geometry = s.out.geometry) (hmask : t.comp.cueMask = s.comp.cueMask)
    (hshowing : t.sf.showing = s.sf.showing) (x y : Nat) (c : Colour) :
    composePixel t x y c = composePixel s x y c := by
  have hvisit : visitRegion t x y = visitRegion s x y := by
    have hpart : takesPart t x y = takesPart s x y := by
      funext i
      rw [takesPart, takesPart, hbank, hgeometry, hmask]
    funext d i
    rw [visitRegion, visitRegion, hpart, hbank, hshowing]
  rw [composePixel, composePixel, hvisit, hbank]

theorem mapIdx_replicate {α β : Type} (f : Nat → α → β) (n : Nat) (a : α) :
    (List.replicate n a).mapIdx f = (List.range n).map fun i => f i a :=
  List.ext_getElem (by simp) (by simp)

@[simp] theorem stopFetch_sf (s : State) : (stopFetch s).sf = { s.sf with fetch := none } := by
  simp [stopFetch]

@[simp] theorem startFetch_showing (t : Nat) (s : State) :
    (startFetch t s).sf.showing = s.sf.showing := by
  simp [startFetch]

/-- A line whose buffer was filled shows it, its incomplete spans LATE (R87, R89). -/
theorem spanLineStart_showing {s : State} {y : Nat} (hy : y < s.out.geometry.active)
    (howner : s.sf.filling.owner = some y) : (spanLineStart y s).1.sf.showing =
      { s.sf.filling with status := s.sf.filling.status.map SpanStatus.atLineStart } := by
  simp only [spanLineStart, if_neg (Nat.not_le.2 hy), if_pos howner]
  split_ifs <;> simp [countUnderruns, swapBuffers]

/-- RMON takes no line of an internal frame (R122). -/
theorem accumulateLine_internal {s : State} (y : Nat) (words : List Pixel)
    (h : s.out.inputTimed = false) : accumulateLine y words s = s := by
  simp [accumulateLine, h]

/-- The state in which an output ACTIVE line is composed: its spans settled, its cues acted, the line taken
by RMON and counted. -/
def composingState (starts : List Pixel) (s : State) : State :=
  let y := s.out.activeCount
  let settled := (spanLineStart y s).1
  let offers := interleaved (spanLineStart y s).2 (cueNotices settled.ct.activeSet y) settled
  let t := accumulateLine y starts (actCues y (offerAll offers.1 offers.2))
  t.withOut { t.out with activeCount := y + 1 }

theorem activeLine_eq (frameStart : Bool) (starts : List Pixel) (s : State) :
    activeLine frameStart starts s = sendPixels .active frameStart
      (composeLine (composingState starts s) s.out.activeCount starts) (composingState starts s) := rfl

theorem composingState_blocks (starts : List Pixel) (s : State) :
    (composingState starts s).ct = s.ct ∧ (composingState starts s).ce = s.ce ∧
    (composingState starts s).mlu = s.mlu ∧ (composingState starts s).rtu = s.rtu ∧
    (composingState starts s).comp =
      { s.comp with cueMask := cueMaskAt s.ct.activeSet s.out.activeCount s.comp.cueMask } ∧
    (composingState starts s).sf = (spanLineStart s.out.activeCount s).1.sf ∧
    (composingState starts s).out = { s.out with activeCount := s.out.activeCount + 1 } := by
  simp [composingState, actCues]

theorem composingState_mon {starts : List Pixel} {s : State} (h : s.out.inputTimed = false) :
    (composingState starts s).mon = s.mon := by
  simp only [composingState, State.withOut_mon]
  rw [accumulateLine_internal _ _ (by simpa using h)]
  simp

theorem composingState_settled (starts : List Pixel) (s : State) :
    LineSettled s.out.activeCount s (composingState starts s) := by
  obtain ⟨hct, -, -, -, hcomp, hsf, -⟩ := composingState_blocks starts s
  refine ⟨by rw [hct], by rw [hcomp], by rw [hcomp], fun hy howner => ?_⟩
  rw [hsf, spanLineStart_showing hy howner]
  exact ⟨rfl, List.map_congr_left fun x _ => by cases x <;> rfl⟩

/-- An ACTIVE line of an internal frame is composed over the slate colour (R62). -/
theorem internalLine_active {s : State} {i : Nat} (hi : i ≠ 0)
    (hkind : internalKind s.out.geometry i = .active) : internalLine i [] s =
      activeLine false (List.replicate s.out.geometry.width s.comp.slate.pixel)
        (s.withOut { s.out with line := i }) := by
  simp only [internalLine, internalWords, hkind, outputLineStart, decide_eq_false hi, runActs_nil]

/-- Over a legal colour the words of a line are the pixels composed on it (R63). -/
theorem composeLine_replicate (s : State) (y n : Nat) {c : Colour} (h : c.Legal) :
    (composeLine s y (List.replicate n c.pixel)).map pixelWord =
      (List.range n).map fun x => pixelWord (composePixel s x y c).pixel := by
  simp only [composeLine, mapIdx_replicate, List.map_map, pixelColour_pixel h, Function.comp_def]

/-- An ACTIVE line over a legal colour carries the pixels composed on it, and leaves the other blocks
(R62, R63, R67). -/
theorem activeLine_overColour {s : State} {c : Colour} (n : Nat) (hc : c.Legal)
    (htimed : s.out.inputTimed = false) {t : State}
    (ht : t = activeLine false (List.replicate n c.pixel) s) :
    LineSettled s.out.activeCount s t ∧ t.ce = s.ce ∧ t.mlu = s.mlu ∧ t.rtu = s.rtu ∧
    t.mon = s.mon ∧ t.out = { s.out with
      activeCount := s.out.activeCount + 1
      tx := startWord .active false :: (List.range n).map fun x =>
        pixelWord (composePixel t x s.out.activeCount c).pixel } := by
  rw [activeLine_eq] at ht
  obtain ⟨-, hce, hmlu, hrtu, -, -, hout⟩ := composingState_blocks (List.replicate n c.pixel) s
  have hcompose (x : Nat) : composePixel t x s.out.activeCount c =
      composePixel (composingState (List.replicate n c.pixel) s) x s.out.activeCount c := by
    subst ht; exact composePixel_congr rfl rfl rfl rfl x _ c
  simp only [hcompose, ← composeLine_replicate _ _ _ hc]
  subst ht
  exact ⟨composingState_settled _ _, hce, hmlu, hrtu, composingState_mon htimed,
    by simp only [sendPixels, setTx, State.withOut_out, hout]⟩

/-! ### The activation event -/

/-- What set-ready leaves at the Compositor, the SF and RMON (R32, R76, R81, R123). -/
structure SetReady (s t : State) : Prop where
  cueMask : t.comp.cueMask = 0
  slate : t.comp.slate = s.comp.slate
  owner : t.sf.filling.owner = some 0
  fetch : t.sf.fetch.isSome = true
  measuring : t.mon.measuring = true
  complete : t.mon.complete = s.out.inputTimed

theorem setReady_outcome (s : State) : SetReady s (setReady s) := by
  constructor <;> simp [setReady, startFetch, beginMeasurement, clearCueMask]

/-- What set-ready has set, but for the Compositor's own state. -/
def readied (s : State) : LineBuffer × Option Fetch × Bool × Bool :=
  (s.sf.filling, s.sf.fetch, s.mon.measuring, s.mon.complete)

/-- No command executed by its block touches it. -/
theorem Command.run_readied (c : Command) (p : List Byte) (s : State) :
    readied (c.run p s).1 = readied s := by
  cases c with
  | setRegion | setPalette | setCue =>
    exact whileOpen_keeps (f := readied) (checked_keeps (f := readied) rfl)
  | setNotifyMask | setTiming | readRegion | readPalette | readCue | setFence | readFence
  | readMeasure | setReport => exact checked_keeps (f := readied) rfl
  | editOpen => simp only [Command.run, runEditOpen]; split_ifs <;> rfl
  | editClose =>
    simp only [Command.run, runEditClose]; split_ifs
    · split <;> rfl
    · rfl
  | commit => simp only [Command.run, runCommit]; split_ifs <;> rfl
  | readInfo | readStatus | clearCounters | ovlWrite | ovlFill | ovlCopy | ovlRead => rfl

theorem runSequenced_readied (code : Byte) (p : List Byte) (s : State) :
    readied (runSequenced code p s).1 = readied s := by
  unfold runSequenced; split
  · rfl
  · split_ifs
    · exact Command.run_readied _ p s
    · rfl

theorem beginQueued_readied (q : Queued) (s : State) : readied (beginQueued q s) = readied s := by
  have hseq := runSequenced_readied q.code q.payload s
  have hbroadcast : readied (runBroadcastCommit q.payload s).1 = readied s := by simp [readied]
  unfold beginQueued
  split_ifs
  · split <;> rename_i hrun <;> rw [hrun] at hseq
    · exact hseq
    · exact hseq
  · split <;> rename_i hrun <;> rw [hrun] at hbroadcast
    · exact hbroadcast
    · exact hbroadcast

theorem beginNext_readied (s : State) : readied (beginNext s) = readied s := by
  unfold beginNext; split_ifs
  · split
    · rfl
    · exact beginQueued_readied _ _
  · rfl

/-- What the engine does behind set-ready leaves it. -/
theorem SetReady.of_readied {s t u : State} (h : SetReady s t) (hcomp : u.comp = t.comp)
    (hreadied : readied u = readied t) : SetReady s u := by
  obtain ⟨hcueMask, hslate, howner, hfetch, hmeasuring, hcomplete⟩ := h
  simp only [readied, Prod.mk.injEq] at hreadied
  obtain ⟨hfilling, hfetching, hmeasure, hwhole⟩ := hreadied
  exact ⟨hcomp ▸ hcueMask, hcomp ▸ hslate, hfilling ▸ howner, hfetching ▸ hfetch,
    hmeasure ▸ hmeasuring, hwhole ▸ hcomplete⟩

theorem takeCommitApplied_readied (s : State) : readied (takeCommitApplied s) = readied s := by
  unfold takeCommitApplied; split <;> simp [readied]

/-- An activation event sets ready, and commits where a commit is requested with the edit CLOSED (R30 to
R33). -/
theorem activationEvent_outcome (s : State) : SetReady s (activationEvent s) ∧
    (activationEvent s).ct.activeSet =
      if s.ct.editOpen = false ∧ s.ct.request.isSome = true then s.ct.pendingSet
        else s.ct.activeSet := by
  have hready : ∀ x, x.out = s.out → x.comp.slate = s.comp.slate → SetReady s (setReady x) :=
    fun x hout hslate => by
      obtain ⟨hcueMask, hslate', howner, hfetch, hmeasuring, hcomplete⟩ := setReady_outcome x
      exact ⟨hcueMask, hslate'.trans hslate, howner, hfetch, hmeasuring, hout ▸ hcomplete⟩
  unfold activationEvent activationActs
  cases hopen : s.ct.editOpen with
  | true =>
    refine ⟨hready _ (by simp) (by simp), ?_⟩
    simpa using (countEdit_recordsKept s).1
  | false =>
    cases hrequest : s.ct.request.isSome with
    | true =>
      have hcommitted : SetReady s (commitNow s) :=
        (hready (clearMonitors (changedRegions s.ct.activeSet s.ct.pendingSet) (applyCommit s))
          (by simp) (by simp)).of_readied (by simp [commitNow]) (takeCommitApplied_readied _)
      have hsettled : readied (runActs (settleActs s) (commitNow s)) = readied (commitNow s) :=
        runActs_keeps (fun act hact x => by
          rw [List.eq_of_mem_replicate hact, beginNext_readied]) _
      have hactive := (RecordsKept.run (settleActs_recordsKept s) (commitNow s)).1
      exact ⟨hcommitted.of_readied (by simp) hsettled,
        hactive.trans (commitNow_committing s).1⟩
    | false => exact ⟨hready s rfl rfl, by simp⟩

/-- Settles O24: an internal line is BLANK or ACTIVE by its index, and the events of its start are none,
or the activation event. -/
theorem internalLinesStart : Obligations.InternalLinesStart := by
  unfold Obligations.InternalLinesStart
  refine ⟨?blank, ?active, ?activation⟩
  case blank =>
    intro s hreset hrunning htimed hline hmgmt hout hactivation hframeEnd
    have hdue : frameEndDue s = false := by
      rcases hframeEnd with h | h <;> simp [frameEndDue, h]
    rw [exec_internalLineStart_within hreset hrunning htimed hline,
      internalLine_blank (by omega) (by exact internalKind_blank hmgmt hout)
        (by exact decide_eq_false hactivation),
      lineEvents_none (by exact hdue)]
    rfl
  case active =>
    intro s hreset hrunning htimed hlaw hline hfrom hto
    obtain ⟨-, -, -, -, -, -, -, -, -, -, hslate, -⟩ := hlaw
    rw [exec_internalLineStart_within hreset hrunning htimed hline,
      internalLine_active (by omega) (by exact internalKind_active (by omega) hfrom hto)]
    generalize ht : activeLine false _ _ = t
    exact ⟨t, rfl, activeLine_overColour _ hslate (by exact htimed) ht.symm⟩
  case activation =>
    intro s hreset hrunning htimed hnext hmgmt hline hcount hactivated
    have hdue : frameEndDue s = false := by simp [frameEndDue, hcount]
    have hbefore : s.out.line + 1 < s.out.geometry.firstActive := by omega
    rw [exec_internalLineStart_within hreset hrunning htimed hline,
      internalLine_blank (by omega) (by exact internalKind_blank hmgmt (.inl hbefore))
        (by exact decide_eq_true hnext),
      lineEvents_activation (by exact hdue) (by exact hactivated)]
    obtain ⟨hready, hactive⟩ := activationEvent_outcome _
    obtain ⟨hcueMask, hslate, howner, hfetch, hmeasuring, hcomplete⟩ := hready
    refine ⟨_, rfl, ?_, ?_, ?_⟩
    · simp [setTx]
    · simp [setTx]
    · simp only [setTx_keeps]
      exact ⟨hactive, hcueMask, hslate, howner, hfetch, hmeasuring, hcomplete.trans htimed⟩

end Sys2Proof.Machine
end

section
/-! SET_TIMING: the eight free-run parameters in both directions (R54, R59, R60, R196, R197). -/

namespace Sys2Proof.Machine

/-! ### What passes the checks -/

/-- The checks of SET_TIMING pass only legal parameters (R59). -/
theorem freeRunAt_legal {p : List Byte} (h : ∀ c ∈ timingChecks p, c.1 = true) :
    (freeRunAt p).Legal := by
  have hlimit : fieldAt p 12 1 < 256 := fieldAt_lt p 12 1
  simp only [timingChecks, List.forall_mem_cons, Bool.and_eq_true, decide_eq_true_eq] at h
  obtain ⟨⟨-, htotal⟩, ⟨hactive, hactive'⟩, -, ⟨hwidth, hwidth'⟩, hmgmt, ⟨hperiod, hperiod'⟩, -,
    hfirst, hlast, -⟩ := h
  exact ⟨hactive, hactive', hwidth, hwidth', hmgmt, hfirst, hlast, htotal, hperiod, hperiod',
    Nat.le_of_lt_succ hlimit, colourOf_legal _⟩

/-- The fields of a payload are those of the parameters it carries. -/
theorem freeRunAt_octets {f : FreeRun} (h : f.Legal) :
    freeRunAt f.octets = f ∧ fieldAt f.octets 13 4 = f.slate.packed := by
  obtain ⟨hactive, hactive', hwidth, hwidth', hmgmt, hfirst, hlast, htotal, hperiod, hperiod',
    hlimit, hslate⟩ := h
  have hpacked := Colour.packed_lt hslate
  have hoctets : f.octets = toOctets 2 f.geometry.total ++ (toOctets 2 f.geometry.active ++
      (toOctets 2 f.geometry.firstActive ++ (toOctets 2 f.geometry.width ++
      octet f.geometry.mgmt :: (toOctets 3 f.period ++ octet f.holdoverLimit ::
      (toOctets 4 f.slate.packed ++ []))))) := by
    simp [FreeRun.octets]
  have hslateField : fieldAt f.octets 13 4 = f.slate.packed := by
    rw [hoctets]
    simp only [fieldAt_cons, fieldAt_past_two, fieldAt_past_three]
    exact fieldAt_front (by omega) _
  refine ⟨?_, hslateField⟩
  have htotalField : fieldAt f.octets 0 2 = f.geometry.total := by
    rw [hoctets]; exact fieldAt_front (by omega) _
  have hactiveField : fieldAt f.octets 2 2 = f.geometry.active := by
    rw [hoctets, fieldAt_past_two]; exact fieldAt_front (by omega) _
  have hfirstField : fieldAt f.octets 4 2 = f.geometry.firstActive := by
    rw [hoctets]; simp only [fieldAt_past_two]; exact fieldAt_front (by omega) _
  have hwidthField : fieldAt f.octets 6 2 = f.geometry.width := by
    rw [hoctets]; simp only [fieldAt_past_two]; exact fieldAt_front (by omega) _
  have hmgmtField : fieldAt f.octets 8 1 = f.geometry.mgmt := by
    rw [hoctets]; simp only [fieldAt_past_two]; exact fieldAt_octet (by omega) _
  have hperiodField : fieldAt f.octets 9 3 = f.period := by
    rw [hoctets]; simp only [fieldAt_past_two, fieldAt_cons]; exact fieldAt_front (by omega) _
  have hlimitField : fieldAt f.octets 12 1 = f.holdoverLimit := by
    rw [hoctets]
    simp only [fieldAt_past_two, fieldAt_cons, fieldAt_past_three]
    exact fieldAt_octet (by omega) _
  simp only [freeRunAt, htotalField, hactiveField, hfirstField, hwidthField, hmgmtField,
    hperiodField, hlimitField, hslateField, colourOf_packed hslate]

/-- The payload of legal parameters passes every check (R59). -/
theorem timingChecks_octets {f : FreeRun} (h : f.Legal) :
    ∀ c ∈ timingChecks f.octets, c.1 = true := by
  obtain ⟨hfields, hslateField⟩ := freeRunAt_octets h
  obtain ⟨hactive, hactive', hwidth, hwidth', hmgmt, hfirst, hlast, htotal, hperiod, hperiod',
    -, hslate⟩ := h
  have hpacked := Colour.packed_lt hslate
  simp only [timingChecks, hfields, hslateField, colourLegal, List.forall_mem_cons,
    Bool.and_eq_true, decide_eq_true_eq]
  refine ⟨?_, ?_, ?_, ?_, ?_, ?_, ?_, ?_, ?_, by simp⟩ <;> omega

/-! ### Octets rebuilt from fields -/

/-- Octets are those of the integer they hold. -/
theorem toOctets_bigEndian (l : List Byte) : toOctets l.length (bigEndian l) = l := by
  induction l with
  | nil => rfl
  | cons b l ih =>
    have hlt := bigEndian_lt l
    have hpos : 0 < 256 ^ l.length := Nat.pow_pos (by decide)
    have hhigh : (b.toNat * 256 ^ l.length + bigEndian l) / 256 ^ l.length = b.toNat := by
      rw [Nat.mul_comm, Nat.mul_add_div hpos, Nat.div_eq_of_lt hlt, Nat.add_zero]
    have hlow : toOctets l.length (b.toNat * 256 ^ l.length + bigEndian l) =
        toOctets l.length (bigEndian l) := by
      refine List.map_congr_left fun i hi => ?_
      have hi := List.mem_range.1 hi
      obtain ⟨k, hk⟩ : ∃ k, l.length = l.length - 1 - i + (k + 1) := ⟨i, by omega⟩
      have hsplit : b.toNat * 256 ^ l.length =
          256 ^ (l.length - 1 - i) * (256 * (b.toNat * 256 ^ k)) := by
        conv_lhs => rw [hk]
        rw [Nat.pow_add, Nat.pow_succ]
        ring
      rw [hsplit, Nat.mul_add_div (Nat.pow_pos (by decide))]
      apply BitVec.eq_of_toNat_eq
      rw [BitVec.toNat_ofNat, BitVec.toNat_ofNat]
      omega
    rw [List.length_cons, bigEndian_cons, toOctets_succ, hhigh, hlow, ih, BitVec.ofNat_toNat,
      BitVec.setWidth_eq]

/-- A field of a payload, put in front of what follows it. -/
theorem toOctets_fieldAt {p : List Byte} {o n : Nat} (h : o + n ≤ p.length) :
    toOctets n (fieldAt p o n) ++ p.drop (o + n) = p.drop o := by
  have hlen : ((p.drop o).take n).length = n := by
    rw [List.length_take, List.length_drop]; omega
  have hfield := toOctets_bigEndian ((p.drop o).take n)
  rw [hlen] at hfield
  rw [fieldAt, hfield, ← List.drop_drop, List.take_append_drop]

theorem octet_fieldAt {p : List Byte} {o : Nat} (h : o + 1 ≤ p.length) :
    octet (fieldAt p o 1) :: p.drop (o + 1) = p.drop o := by
  rw [← toOctets_fieldAt h]
  simp [toOctets, octet]

/-- A field with its two top bits 0 is the packed form of its colour. -/
theorem packed_colourOf {v : Nat} (h : v < 1073741824) : (colourOf v).packed = v := by
  simp only [Colour.packed, colourOf]
  omega

/-- A payload of 17 octets whose colour is legal is that of the parameters read from it. -/
theorem octets_freeRunAt {p : List Byte} (hp : p.length = 17)
    (hslate : colourLegal (fieldAt p 13 4) = true) : (freeRunAt p).octets = p := by
  have hpacked := packed_colourOf (of_decide_eq_true hslate)
  have hoctets : (freeRunAt p).octets = toOctets 2 (fieldAt p 0 2) ++ (toOctets 2 (fieldAt p 2 2) ++
      (toOctets 2 (fieldAt p 4 2) ++ (toOctets 2 (fieldAt p 6 2) ++ octet (fieldAt p 8 1) ::
      (toOctets 3 (fieldAt p 9 3) ++ octet (fieldAt p 12 1) ::
      (toOctets 4 (fieldAt p 13 4) ++ p.drop (13 + 4)))))) := by
    simp [FreeRun.octets, freeRunAt, hpacked, hp]
  rw [hoctets, toOctets_fieldAt (by omega), octet_fieldAt (o := 12) (by omega),
    toOctets_fieldAt (o := 9) (by omega), octet_fieldAt (o := 8) (by omega),
    toOctets_fieldAt (o := 6) (by omega), toOctets_fieldAt (o := 4) (by omega),
    toOctets_fieldAt (o := 2) (by omega), toOctets_fieldAt (o := 0) (by omega), List.drop_zero]

/-! ### The command -/

/-- SET_TIMING of legal parameters stores them. -/
theorem runSetTiming_legal {f : FreeRun} (h : f.Legal) (s : State) :
    runSetTiming f.octets s = (s.withRtu { s.rtu with params := f }, .ok) := by
  rw [runSetTiming, checked_pass (timingChecks_octets h), (freeRunAt_octets h).1]

/-- SET_TIMING of 17 octets is refused at one of them, which no legal parameters encode, or stores the
legal parameters they encode. -/
theorem runSetTiming_cases {p : List Byte} (hp : p.length = 17) :
    (∃ o < 17, (∀ f : FreeRun, f.Legal → p ≠ f.octets) ∧
      ∀ s, runSetTiming p s = (s, .badField o)) ∨
    ∃ f : FreeRun, f.Legal ∧ p = f.octets := by
  obtain ⟨o, ho, hrun⟩ | ⟨hpass, -⟩ := checked_cases (timingChecks p)
    fun s => (s.withRtu { s.rtu with params := freeRunAt p }, .ok)
  · refine .inl ⟨o, ?_, fun f hf hpf => ?_, hrun⟩
    · simp only [timingChecks, List.map_cons, List.map_nil, List.mem_cons, List.not_mem_nil,
        or_false] at ho
      omega
    · have hstored := runSetTiming_legal hf State.reset
      rw [← hpf, runSetTiming, hrun] at hstored
      simp [Result.badField, Result.ok] at hstored
  · have hslate : colourLegal (fieldAt p 13 4) = true :=
      hpass (colourLegal (fieldAt p 13 4), 13) (by simp [timingChecks])
    exact .inr ⟨freeRunAt p, freeRunAt_legal hpass, (octets_freeRunAt hp hslate).symm⟩

theorem FreeRun.octets_length (f : FreeRun) : f.octets.length = 17 := by simp [FreeRun.octets]

/-- SET_TIMING of legal parameters is answered OK, with them stored. -/
theorem exec_setTiming_legal {s : State} {seq : Byte} (h : Ready seq s) {f : FreeRun} (hf : f.Legal) :
    exec (.setTiming seq f.octets) s =
      .next (State.answered { s with rtu := { s.rtu with params := f } } seq 0x10 .ok []) :=
  handOver_done (c := .setTiming) (e := { s with rtu := { s.rtu with params := f } }) h rfl
    (by simp [Command.admits, FreeRun.octets_length]) (runSetTiming_legal hf (s.accepted seq))

/-- The layout of an internal frame by the lock state (R54, R60). -/
theorem internalLayout_freeRun {s : State} (h : s.rtu.lock = .freeRun ∨ s.rtu.lock = .acquiring) :
    internalLayout s = (s.rtu.params.geometry, s.rtu.params.period) := by
  rcases h with h | h <;> simp only [internalLayout, h, freeRunLayout]

theorem holdoverLayout_of_some {r : RasterTiming} {g : Geometry} {d : Nat} (hg : r.locked = some g)
    (hd : r.measured = some d) : holdoverLayout r = (holdoverGeometry g, d) := by
  simp only [holdoverLayout, hg, hd]

/-- Settles O43: the checks pass exactly the octets of legal parameters; the holdover layout does not look
at the parameters stored. -/
theorem setTimingStoresParameters : Obligations.SetTimingStoresParameters := by
  unfold Obligations.SetTimingStoresParameters
  refine ⟨fun s seq hready => ⟨fun f hf => exec_setTiming_legal hready hf, fun p hp => ?_⟩,
    fun s f => ⟨internalLayout_freeRun, fun hlock hlocked hmeasured => ?_⟩⟩
  · obtain ⟨o, ho, hno, hrun⟩ | ⟨f, hf, rfl⟩ := runSetTiming_cases hp
    · exact .inl ⟨octet o, by rw [octet_toNat]; omega, hno, handOver_done (c := .setTiming) (e := s)
        hready rfl (by simp [Command.admits, hp]) (hrun (s.accepted seq))⟩
    · exact .inr ⟨f, hf, rfl, exec_setTiming_legal hready hf⟩
  · obtain ⟨g, hg⟩ := Option.isSome_iff_exists.1 hlocked
    obtain ⟨d, hd⟩ := Option.isSome_iff_exists.1 hmeasured
    have hlayout : holdoverLayout { s.rtu with params := f } = holdoverLayout s.rtu := by
      simp only [holdoverLayout, hg, hd]
    rcases hlock with hlock | hlock
    · simp only [internalLayout, hlayout]; rw [hlock]
    · simp only [internalLayout, hlayout]; rw [hlock]

end Sys2Proof.Machine
end

section
/-! What commands and packets do to the RTU, and how the timing law rests on it (R42, R51, R52, R59). -/

namespace Sys2Proof.Machine

/-! ### The RTU under commands and under packets -/

/-- A command stores free-run parameters, legal ones if they were, and clears the count of lock losses:
nothing else of the RTU is its own (R59, R179, R191). -/
def RasterTiming.Served (r q : RasterTiming) : Prop :=
  q = { r with params := q.params, lockLosses := q.lockLosses } ∧ (r.params.Legal → q.params.Legal)

/-- A packet besides may join the forward list of the line arriving (R149). -/
def RasterTiming.Carried (r q : RasterTiming) : Prop :=
  q = { r with params := q.params, lockLosses := q.lockLosses, cur := q.cur } ∧
  (r.params.Legal → q.params.Legal)

theorem RasterTiming.Served.refl (r : RasterTiming) : r.Served r := ⟨rfl, id⟩

theorem RasterTiming.Served.of_eq {r q : RasterTiming} (h : q = r) : r.Served q := h ▸ .refl r

theorem RasterTiming.Served.trans {r q p : RasterTiming} (h : r.Served q) (k : q.Served p) :
    r.Served p := by
  obtain ⟨hq, hlegal⟩ := h
  obtain ⟨hp, hlegal'⟩ := k
  refine ⟨?_, hlegal' ∘ hlegal⟩
  rw [hp, hq]

/-- What comes before may leave the RTU alone. -/
theorem RasterTiming.Served.behind {r q p : RasterTiming} (k : q.Served p) (h : q = r) :
    r.Served p := h ▸ k

theorem RasterTiming.Carried.refl (r : RasterTiming) : r.Carried r := ⟨rfl, id⟩

theorem RasterTiming.Carried.trans {r q p : RasterTiming} (h : r.Carried q) (k : q.Carried p) :
    r.Carried p := by
  obtain ⟨hq, hlegal⟩ := h
  obtain ⟨hp, hlegal'⟩ := k
  refine ⟨?_, hlegal' ∘ hlegal⟩
  rw [hp, hq]

theorem RasterTiming.Served.carried {r q : RasterTiming} (h : r.Served q) : r.Carried q := by
  obtain ⟨hq, hlegal⟩ := h
  refine ⟨?_, hlegal⟩
  rw [hq]

/-! ### Execution -/

/-- A checked command serves the RTU, if its effect does once the checks pass. -/
theorem checked_served {checks : List (Bool × Nat)} {effect : State → State × Result} {s : State}
    (h : (∀ c ∈ checks, c.1 = true) → s.rtu.Served (effect s).1.rtu) :
    s.rtu.Served (checked checks effect s).1.rtu := by
  rcases checked_cases checks effect with ⟨o, -, ho⟩ | ⟨hpass, heff⟩
  · rw [ho]; exact .refl _
  · rw [heff]; exact h hpass

/-- A command executed by its block serves the RTU: SET_TIMING stores legal parameters, CLEAR_COUNTERS
clears the count, and no other command touches it. -/
theorem Command.run_served (c : Command) (p : List Byte) (s : State) :
    s.rtu.Served (c.run p s).1.rtu := by
  cases c with
  | setTiming => exact checked_served fun hpass => ⟨rfl, fun _ => freeRunAt_legal hpass⟩
  | clearCounters => exact ⟨rfl, id⟩
  | setRegion | setPalette | setCue =>
    exact .of_eq (whileOpen_keeps (f := State.rtu) (checked_keeps (f := State.rtu) rfl))
  | setNotifyMask | readRegion | readPalette | readCue | setFence | readFence | readMeasure
  | setReport => exact .of_eq (checked_keeps (f := State.rtu) rfl)
  | editOpen => simp only [Command.run, runEditOpen]; split_ifs <;> exact .refl _
  | editClose =>
    simp only [Command.run, runEditClose]; split_ifs
    · split <;> exact .refl _
    · exact .refl _
  | commit => simp only [Command.run, runCommit]; split_ifs <;> exact .refl _
  | readInfo | readStatus | ovlWrite | ovlFill | ovlCopy | ovlRead => exact .refl _

theorem runSequenced_served (code : Byte) (p : List Byte) (s : State) :
    s.rtu.Served (runSequenced code p s).1.rtu := by
  unfold runSequenced; split
  · exact .refl _
  · split_ifs
    · exact Command.run_served _ p s
    · exact .refl _

theorem beginQueued_served (q : Queued) (s : State) : s.rtu.Served (beginQueued q s).rtu := by
  have hseq := runSequenced_served q.code q.payload s
  have hbroadcast : (runBroadcastCommit q.payload s).1.rtu = s.rtu := by simp
  unfold beginQueued
  split_ifs
  · split <;> rename_i hrun <;> rw [hrun] at hseq <;> exact hseq
  · split <;> rename_i hrun <;> rw [hrun] at hbroadcast <;> exact .of_eq hbroadcast

theorem beginNext_served (s : State) : s.rtu.Served (beginNext s).rtu := by
  unfold beginNext; split_ifs
  · split
    · exact .refl _
    · exact beginQueued_served _ _
  · exact .refl _

theorem settleEngine_served (s : State) : s.rtu.Served (settleEngine s).rtu :=
  runActs_induct (P := fun x : State => s.rtu.Served x.rtu) (fun act hact x hx => by
    rw [List.eq_of_mem_replicate hact]; exact hx.trans (beginNext_served x)) (.refl _)

/-- The engine settles behind an operation that leaves the RTU. -/
theorem settleEngine_served_after {s t : State} (h : t.rtu = s.rtu) :
    s.rtu.Served (settleEngine t).rtu := .behind (settleEngine_served t) h

/-! ### Store operations -/

theorem advanceOperation_served (op : StoreOp) (s : State) :
    s.rtu.Served (advanceOperation op s).rtu := by
  simp only [advanceOperation]; split
  · exact .refl _
  · exact settleEngine_served_after (by simp)

theorem completeChecks_served (op : StoreOp) (s : State) :
    s.rtu.Served (completeChecks op s).rtu := by
  unfold completeChecks; split
  · exact settleEngine_served_after (by simp)
  · simp only [grantStore_keeps]
    exact advanceOperation_served _ s

theorem completeCancel_served (c : CancelWait) (d : List Byte) (s : State) :
    s.rtu.Served (completeCancel c d s).rtu := settleEngine_served_after (by simp)

theorem endOperation_served (op : StoreOp) (s : State) : s.rtu.Served (endOperation op s).rtu := by
  simp only [endOperation]; split
  · exact completeCancel_served _ _ (emptyRecord s)
  · exact settleEngine_served (emptyRecord s)

theorem completeWrite_served (op : StoreOp) (r : BurstRequest) (s : State) :
    s.rtu.Served (completeWrite op r s).rtu := by
  simp only [completeWrite]; split_ifs
  · exact .behind (endOperation_served _ _) rfl
  · exact .behind (advanceOperation_served _ _) rfl

theorem completeRead_served (op : StoreOp) (r : BurstRequest) (s : State) :
    s.rtu.Served (completeRead op r s).rtu := by
  simp only [completeRead]; split_ifs
  · exact endOperation_served op s
  · exact .refl _
  · exact advanceOperation_served _ s

theorem completeEngineBurst_served (g : Grant) (s : State) :
    s.rtu.Served (completeEngineBurst g s).rtu := by
  simp only [completeEngineBurst, grantStore_keeps]
  split
  · split_ifs
    · exact .behind (completeWrite_served _ _ _) rfl
    · exact .behind (completeRead_served _ _ _) rfl
  · exact .refl _

/-! ### Intake -/

theorem performCancel_served (seq code : Byte) (s : State) :
    s.rtu.Served (performCancel seq code s).rtu := by
  have hcancel : ∀ c d (x : State), x.rtu = s.rtu → s.rtu.Served (completeCancel c d x).rtu :=
    fun c d x hx => .behind (completeCancel_served c d x) hx
  simp only [performCancel]
  split
  · exact hcancel _ _ _ rfl
  · split_ifs
    · exact .of_eq (by simp)
    · exact hcancel _ _ _ (by simp)
  · exact hcancel _ _ _ rfl
  · exact hcancel _ _ _ rfl

/-- The default free-run parameters are legal (3.5). -/
theorem default_freeRun_legal : FreeRun.default.Legal := by decide

/-- NODE_RESET stores the default parameters (R179). -/
theorem performReset_served (s : State) : s.rtu.Served (performReset s).rtu := by
  have hrtu : (performReset s).rtu = { s.rtu with params := .default, lockLosses := 0 } := by
    simp [performReset, resetBlocks]
  rw [hrtu]
  exact ⟨rfl, fun _ => default_freeRun_legal⟩

theorem intakeImmediate_served {effect : State → State}
    (h : ∀ x : State, x.rtu.Served (effect x).rtu) (seq code : Byte) (p : List Byte) (s : State) :
    s.rtu.Served (intakeImmediate effect seq code p s).rtu := by
  simp only [intakeImmediate]; split_ifs
  · exact h (s.withCe _)
  · exact .refl _
  · exact .refl _

theorem intakeAddressed_served (seq code : Byte) (p : List Byte) (s : State) :
    s.rtu.Served (intakeAddressed seq code p s).rtu := by
  unfold intakeAddressed; split_ifs
  · exact intakeImmediate_served (performCancel_served _ _) _ _ _ s
  · exact intakeImmediate_served (fun x => (performReset_served x).trans (.of_eq (by simp))) _ _ _ s
  · exact settleEngine_served_after (by simp)

theorem intakeBroadcast_served (code : Byte) (p : List Byte) (s : State) :
    s.rtu.Served (intakeBroadcast code p s).rtu := by
  unfold intakeBroadcast intakeBroadcastReset; split_ifs
  · exact performReset_served s
  · exact .refl _
  · exact settleEngine_served_after (by simp)

/-! ### Packets and pixel words -/

theorem forwardPacket_carried (p : Packet) (s : State) :
    s.rtu.Carried (forwardPacket p s).rtu := by
  unfold forwardPacket; split
  · exact ⟨rfl, id⟩
  · exact .refl _

theorem takeBroadcast_served (p : Packet) (s : State) :
    s.rtu.Served (takeBroadcast p s).rtu := by
  simp only [takeBroadcast]; split_ifs
  · exact intakeBroadcast_served _ _ s
  · exact .refl _

/-- Two operations of one moment that carry the RTU carry it in either order. -/
theorem eitherOrder_carried {f g : State → State} (hf : ∀ x : State, x.rtu.Carried (f x).rtu)
    (hg : ∀ x : State, x.rtu.Carried (g x).rtu) (s : State) :
    s.rtu.Carried (eitherOrder f g s).rtu := by
  simp only [eitherOrder]; split_ifs
  · exact (hf (s.withFree (s.free + 1))).trans (hg _)
  · exact (hg (s.withFree (s.free + 1))).trans (hf _)

/-- An ENUM is forwarded, its hop count raised or not (R147, R148). -/
theorem takeEnum_carried (p : Packet) (s : State) : s.rtu.Carried (takeEnum p s).rtu := by
  simp only [takeEnum]
  split
  · exact forwardPacket_carried p s
  · split_ifs
    · exact forwardPacket_carried _ (takeEnumeration (s.withMlu _))
    · exact forwardPacket_carried _ (takeEnumeration (s.withMlu _))

theorem takePacket_carried (p : Packet) (s : State) : s.rtu.Carried (takePacket p s).rtu := by
  have hbroadcast : ∀ x : State, x.rtu.Carried (takeBroadcast p x).rtu :=
    fun x => (takeBroadcast_served p x).carried
  simp only [takePacket]
  split_ifs
  · exact forwardPacket_carried p (s.withMlu _)
  · exact (intakeAddressed_served _ _ _ s).carried
  · exact eitherOrder_carried (forwardPacket_carried p) hbroadcast s
  · exact (forwardPacket_carried p s).trans (hbroadcast _)
  · exact takeEnum_carried p s
  · exact forwardPacket_carried p s

theorem feedOctet_carried (s : State) (o : Byte) : s.rtu.Carried (feedOctet s o).rtu := by
  simp only [feedOctet]
  split
  · exact .refl _
  · split_ifs
    · exact .refl _
    · exact .refl _
    · exact .refl _
    · exact .refl _
    · exact .refl _
    · exact takePacket_carried _ (setParse _ s)
    · exact .refl _

theorem feedOctets_carried (l : List Byte) (s : State) : s.rtu.Carried (l.foldl feedOctet s).rtu := by
  induction l generalizing s with
  | nil => exact .refl _
  | cons o l ih => exact (feedOctet_carried s o).trans (ih _)

theorem takePixelWord_carried (bits : BitVec 31) (s : State) :
    s.rtu.Carried (takePixelWord bits s).rtu := by
  have hcur : ∀ l, s.rtu.Carried { s.rtu with cur := l } := fun l => ⟨rfl, id⟩
  simp only [takePixelWord]
  split
  · exact .refl _
  · split_ifs
    · exact (hcur _).trans (feedOctets_carried _ _)
    · exact hcur _
    · exact hcur _

end Sys2Proof.Machine
end

section
/-! The events of a line start and the output lines: what they leave of the RTU and the output raster, and
the timing law that rests on it (R51, R54 to R58, R64). -/

namespace Sys2Proof.Machine

/-! ### Acts of a line start -/

/-- An act of a line start serves the RTU, and of the output raster it marks only the frame end and the
activation event (R56, R57). -/
structure LineServed (s t : State) : Prop where
  rtu : s.rtu.Served t.rtu
  out : t.out = { s.out with frameEnded := t.out.frameEnded, activated := t.out.activated }
  slate : t.comp.slate = s.comp.slate
  resetLow : t.resetLow = s.resetLow
  now : t.now = s.now

theorem LineServed.refl (s : State) : LineServed s s := ⟨.refl _, rfl, rfl, rfl, rfl⟩

theorem LineServed.trans {s t u : State} (h : LineServed s t) (k : LineServed t u) :
    LineServed s u where
  rtu := h.rtu.trans k.rtu
  out := by rw [k.out, h.out]
  slate := k.slate.trans h.slate
  resetLow := k.resetLow.trans h.resetLow
  now := k.now.trans h.now

/-- Acts that serve a line start one by one. -/
abbrev ServeLine (acts : List (State → State)) : Prop := ∀ act ∈ acts, ∀ x, LineServed x (act x)

theorem ServeLine.run {acts : List (State → State)} (h : ServeLine acts) (s : State) :
    LineServed s (runActs acts s) :=
  runActs_induct (P := LineServed s) (fun act hact x hx => hx.trans (h act hact x)) (.refl s)

theorem beginNext_lineServed (s : State) : LineServed s (beginNext s) :=
  ⟨beginNext_served s, by simp, by simp, by simp, by simp⟩

theorem setReady_lineServed (s : State) : LineServed s (setReady s) :=
  ⟨.of_eq (by simp), by simp, (setReady_outcome s).slate, by simp, by simp⟩

theorem countEdit_lineServed (s : State) : LineServed s (countEdit s) :=
  ⟨.of_eq (by simp), by simp, by simp, by simp, by simp⟩

/-- A commit leaves the RTU as it is. -/
theorem commitNow_rtu (s : State) : (commitNow s).rtu = s.rtu := by
  simp only [commitNow, takeCommitApplied]
  split <;> simp

theorem commitNow_lineServed (s : State) : LineServed s (commitNow s) where
  rtu := .of_eq (commitNow_rtu s)
  out := by simp
  slate := by
    simp only [commitNow, takeCommitApplied_keeps, (setReady_outcome _).slate, clearMonitors_keeps,
      applyCommit_keeps]
  resetLow := by simp
  now := by simp

theorem activationActs_serveLine (s : State) : ServeLine (activationActs s) := by
  unfold activationActs
  split_ifs
  · exact List.forall_mem_singleton.2 fun x => (countEdit_lineServed x).trans (setReady_lineServed _)
  · refine List.forall_mem_cons.2 ⟨commitNow_lineServed, fun act hact x => ?_⟩
    rw [List.eq_of_mem_replicate hact]
    exact beginNext_lineServed x
  · exact List.forall_mem_singleton.2 setReady_lineServed

theorem dueActivationActs_serveLine (s : State) : ServeLine (dueActivationActs s) := by
  unfold dueActivationActs
  split_ifs
  · exact List.forall_mem_nil _
  · exact List.forall_mem_cons.2 ⟨fun x => ⟨.refl _, rfl, rfl, rfl, rfl⟩, activationActs_serveLine s⟩

theorem dueFrameEndActs_serveLine (s : State) : ServeLine (dueFrameEndActs s) := by
  unfold dueFrameEndActs
  split_ifs
  · refine List.forall_mem_cons.2 ⟨fun x => ⟨.refl _, rfl, rfl, rfl, rfl⟩, fun act hact x => ?_⟩
    have hkeeps := frameEndActs_each s act hact x
    exact ⟨.of_eq (by simp [hkeeps]), by simp [hkeeps], by simp [hkeeps], by simp [hkeeps],
      by simp [hkeeps]⟩
  · exact List.forall_mem_nil _

theorem endParseActs_serveLine (s : State) : ServeLine (endParseActs s) := fun act hact x => by
  have hkeeps := endParseActs_each s act hact x
  exact ⟨.of_eq (by simp [hkeeps]), by simp [hkeeps], by simp [hkeeps], by simp [hkeeps],
    by simp [hkeeps]⟩

theorem dropActs_serveLine (l : Option InputLine) : ServeLine (dropActs l) := fun act hact x => by
  have hkeeps := dropActs_each l act hact x
  exact ⟨.of_eq (by simp [hkeeps]), by simp [hkeeps], by simp [hkeeps], by simp [hkeeps],
    by simp [hkeeps]⟩

theorem offerLock_lineServed (a b : LockState) (c : LockCause) (s : State) :
    LineServed s (offerLock a b c s) :=
  ⟨.of_eq (by simp), by simp, by simp, by simp, by simp⟩

theorem countLockLoss_lineServed (s : State) : LineServed s (countLockLoss s) :=
  ⟨⟨rfl, id⟩, rfl, rfl, rfl, rfl⟩

theorem ServeLine.interleaved {xs ys : List (State → State)} (hxs : ServeLine xs)
    (hys : ServeLine ys) (s : State) : ServeLine (interleaved xs ys s).1 := fun act hact =>
  (mem_interleaved.1 hact).elim (hxs act) (hys act)

theorem lineEventActs_serveLine (activation : Bool) {others : List (State → State)} (s : State)
    (h : ServeLine others) : ServeLine (lineEventActs activation others s).1 := by
  refine .interleaved (List.forall_mem_append.2 ⟨dueFrameEndActs_serveLine s, ?_⟩) h s
  split_ifs
  · exact dueActivationActs_serveLine s
  · exact List.forall_mem_nil _

theorem lineEvents_lineServed (activation : Bool) {others : List (State → State)} (s : State)
    (h : ServeLine others) : LineServed s (lineEvents activation others s) := by
  have hrun := (lineEventActs_serveLine activation s h).run (lineEventActs activation others s).2
  exact LineServed.trans ⟨.of_eq (by simp), by simp, by simp, by simp, by simp⟩ hrun

/-- An assembly beside acts of a line start. -/
theorem assembleAmong_lineServed {events : List (State → State)} (words : Nat)
    (forward : List Packet) (s : State) (h : ServeLine events) :
    LineServed s (assembleAmong events words forward s).1 := by
  simp only [assembleAmong]
  refine runActs_induct (P := fun x : State × Assembly => LineServed s x.1)
    (fun act hact x hx => hx.trans ?_) ⟨.of_eq (by simp), by simp, by simp, by simp, by simp⟩
  rcases mem_interleaved.1 hact with hact | hact
  · obtain ⟨e, he, rfl⟩ := List.mem_map.1 hact
    exact h e he x.1
  · have hkeeps := assemblyActs_each _ act hact x
    exact ⟨.of_eq (by simp [hkeeps]), by simp [hkeeps], by simp [hkeeps], by simp [hkeeps],
      by simp [hkeeps]⟩

/-! ### Output lines -/

/-- The start of an output line of a kind serves the RTU, counts an ACTIVE line and puts words on the
port. -/
structure LineStarted (kind : LineKind) (s t : State) : Prop where
  rtu : s.rtu.Served t.rtu
  out : t.out = { s.out with
    activeCount := if kind = .active then s.out.activeCount + 1 else s.out.activeCount
    frameEnded := t.out.frameEnded, activated := t.out.activated, tx := t.out.tx }
  slate : t.comp.slate = s.comp.slate
  resetLow : t.resetLow = s.resetLow
  now : t.now = s.now

/-- A line that is not ACTIVE starts behind its events. -/
theorem LineServed.sendPixels {kind : LineKind} {s t : State} (h : LineServed s t)
    (hkind : kind ≠ .active) (frameStart : Bool) (pixels : List Pixel) :
    LineStarted kind s (sendPixels kind frameStart pixels t) where
  rtu := by simpa using h.rtu
  out := by
    simp only [Machine.sendPixels, setTx, State.withOut_out, if_neg hkind]
    rw [h.out]
  slate := by simpa using h.slate
  resetLow := by simpa using h.resetLow
  now := by simpa using h.now

/-- An ACTIVE line starts behind what else happens at its moment. -/
theorem LineServed.activeLine {s t : State} (h : LineServed s t) (frameStart : Bool)
    (starts : List Pixel) : LineStarted .active s (activeLine frameStart starts t) where
  rtu := by simpa using h.rtu
  out := by
    obtain ⟨-, -, -, -, -, -, hout⟩ := composingState_blocks starts t
    rw [activeLine_eq]
    simp only [Machine.sendPixels, setTx, State.withOut_out, if_true, hout]
    rw [h.out]
  slate := by
    obtain ⟨-, -, -, -, hcomp, -, -⟩ := composingState_blocks starts t
    rw [activeLine_eq]
    simp only [sendPixels_keeps, hcomp, h.slate]
  resetLow := by simpa using h.resetLow
  now := by simpa using h.now

theorem outputLineStart_started (kind : LineKind) (frameStart : Bool) (starts : List Pixel)
    (forward : List Packet) (activation : Bool) {others : List (State → State)} (s : State)
    (h : ServeLine others) :
    LineStarted kind s (outputLineStart kind frameStart starts forward activation others s) := by
  cases kind with
  | active => exact (h.run s).activeLine frameStart starts
  | mgmt =>
    have hdrawn : LineServed s (lineEventActs activation others s).2 :=
      ⟨.of_eq (by simp), by simp, by simp, by simp, by simp⟩
    exact (hdrawn.trans (assembleAmong_lineServed _ _ _
      (lineEventActs_serveLine activation s h))).sendPixels (by decide) _ _
  | blank => exact (lineEvents_lineServed activation s h).sendPixels (by decide) _ _

/-! ### Output frames -/

/-- The output raster at an output frame start (R55, R58). -/
theorem outputFrameStart_out (inputTimed : Bool) (g : Geometry) (period startedAt : Nat) (s : State) :
    (outputFrameStart inputTimed g period startedAt s).out =
      { running := true, inputTimed := inputTimed, geometry := g, period := period,
        startedAt := startedAt, line := 0, activeCount := 0, frameEnded := false,
        activated := false, counter := s.out.counter + 1, tx := s.out.tx } := by
  have hended := ((dueFrameEndActs_serveLine s).run s).out
  simp only [outputFrameStart, discardMeasurement_keeps, spanFrameStart_keeps, takeSlate_keeps,
    State.withOut_out]
  split_ifs
  · rw [hended]
  · rfl

/-- The slate colour in force is the stored one (R64). -/
theorem outputFrameStart_slate (inputTimed : Bool) (g : Geometry) (period startedAt : Nat)
    (s : State) : (outputFrameStart inputTimed g period startedAt s).comp.slate =
      s.rtu.params.slate := by
  simp only [outputFrameStart, discardMeasurement_keeps, spanFrameStart_keeps, takeSlate]
  split_ifs <;> simp

/-- The state in which line 0 of an internal frame starts: its output frame start is done (R54). -/
def internalFrameStart (startedAt : Nat) (s : State) : State :=
  outputFrameStart false (internalLayout s).1 (internalLayout s).2 startedAt
    (if s.rtu.lock = .locked then s.withFree (s.free + 1) else s)

theorem State.withOut_line {s : State} {i : Nat} (h : s.out.line = i) :
    s.withOut { s.out with line := i } = s := by
  subst h; rfl

/-- An internal frame begins with a BLANK black line, behind the events of its start (R54, R56, R62). -/
theorem startInternalFrame_eq (startedAt : Nat) (others : List (State → State)) (s : State) :
    startInternalFrame startedAt others s =
      setTx (startWord .blank true :: List.replicate (internalLayout s).1.width 0)
        (lineEvents (decide (0 + 1 = (internalLayout s).1.firstActive)) others
          (internalFrameStart startedAt s)) := by
  have hblack : pixelWord Colour.black.pixel = 0 := by decide
  have hout : (internalFrameStart startedAt s).out = _ := outputFrameStart_out ..
  have hgeometry : (internalFrameStart startedAt s).out.geometry = (internalLayout s).1 := by
    rw [hout]
  have hwords : (internalWords (internalFrameStart startedAt s) 0).map pixelWord =
      List.replicate (internalLayout s).1.width 0 := by
    simp only [internalWords, internalKind, if_true, List.map_replicate, hblack, hgeometry]
  change internalLine 0 others (internalFrameStart startedAt s) = _
  simp only [internalLine, internalKind, if_true, outputLineStart, sendPixels, hwords, decide_true]
  rw [State.withOut_line (by rw [hout]), hgeometry]

/-- The internal frame start keeps the RTU, and its frame is not in input timing. -/
theorem internalFrameStart_keeps (startedAt : Nat) (s : State) :
    (internalFrameStart startedAt s).rtu = s.rtu ∧ (internalFrameStart startedAt s).now = s.now ∧
    (internalFrameStart startedAt s).resetLow = s.resetLow ∧
    (internalFrameStart startedAt s).ct = s.ct ∧ (internalFrameStart startedAt s).mlu = s.mlu ∧
    (internalFrameStart startedAt s).ce = s.ce := by
  unfold internalFrameStart; split_ifs <;> simp

theorem internalFrameStart_out (startedAt : Nat) (s : State) :
    (internalFrameStart startedAt s).out =
      { running := true, inputTimed := false, geometry := (internalLayout s).1,
        period := (internalLayout s).2, startedAt := startedAt, line := 0, activeCount := 0,
        frameEnded := false, activated := false, counter := s.out.counter + 1, tx := s.out.tx } := by
  rw [internalFrameStart, outputFrameStart_out]
  split_ifs <;> rfl

theorem internalFrameStart_slate (startedAt : Nat) (s : State) :
    (internalFrameStart startedAt s).comp.slate = s.rtu.params.slate := by
  rw [internalFrameStart, outputFrameStart_slate]
  split_ifs <;> rfl

/-- What the start of an internal frame leaves: the RTU served, the output at line 0 of a frame in the
layout of the lock state (R54, R58, R62, R64). -/
structure InternalFrameStarted (startedAt : Nat) (s t : State) : Prop where
  rtu : s.rtu.Served t.rtu
  out : t.out =
    { running := true, inputTimed := false, geometry := (internalLayout s).1,
      period := (internalLayout s).2, startedAt := startedAt, line := 0, activeCount := 0,
      frameEnded := t.out.frameEnded, activated := t.out.activated
      counter := s.out.counter + 1
      tx := startWord .blank true :: List.replicate (internalLayout s).1.width 0 }
  slate : t.comp.slate = s.rtu.params.slate
  resetLow : t.resetLow = s.resetLow
  now : t.now = s.now

theorem startInternalFrame_started (startedAt : Nat) {others : List (State → State)} (s : State)
    (h : ServeLine others) :
    InternalFrameStarted startedAt s (startInternalFrame startedAt others s) := by
  have hevents := lineEvents_lineServed (decide (0 + 1 = (internalLayout s).1.firstActive))
    (internalFrameStart startedAt s) h
  obtain ⟨hrtu, hnow, hresetLow, -⟩ := internalFrameStart_keeps startedAt s
  rw [startInternalFrame_eq]
  constructor
  case rtu => simpa [hrtu] using hevents.rtu
  case out =>
    simp only [setTx, State.withOut_out]
    rw [hevents.out, internalFrameStart_out]
  case slate => simpa [internalFrameStart_slate] using hevents.slate
  case resetLow => simpa [hresetLow] using hevents.resetLow
  case now => simpa [hnow] using hevents.now

end Sys2Proof.Machine
end

section
/-! Every step keeps lock state, timers and output timing in agreement (R42, R51, R52, R59). -/

namespace Sys2Proof.Machine

/-! ### States that the timing law does not tell apart -/

/-- The RTU is carried over, and the rest of what the law looks at is as it was. -/
structure TimingKept (s t : State) : Prop where
  rtu : s.rtu.Carried t.rtu
  inputTimed : t.out.inputTimed = s.out.inputTimed
  running : t.out.running = s.out.running
  slate : t.comp.slate = s.comp.slate
  resetLow : t.resetLow = s.resetLow

theorem TimingKept.law {s t : State} (k : TimingKept s t) (h : TimingLaw s) : TimingLaw t := by
  obtain ⟨⟨hrtu, hlegal⟩, hin, hrun, hslate, hreset⟩ := k
  obtain ⟨hfly, hacquire, hwatch, hinput, hawait, hsome, hregular, hmeasured, hcount, hparams,
    hcolour, hlow⟩ := h
  rw [TimingLaw, hin, hrun, hslate, hreset]
  generalize t.rtu = q at hrtu hlegal ⊢
  rw [hrtu]
  exact ⟨hfly, hacquire, hwatch, hinput, hawait, hsome, hregular, hmeasured, hcount,
    hlegal hparams, hcolour, hlow⟩

/-- A command keeps the law: it serves the RTU and leaves output and slate colour. -/
theorem RasterTiming.Served.law {s t : State} (hrtu : s.rtu.Served t.rtu) (hout : t.out = s.out)
    (hcomp : t.comp = s.comp) (hreset : t.resetLow = s.resetLow) (h : TimingLaw s) : TimingLaw t :=
  TimingKept.law ⟨hrtu.carried, by rw [hout], by rw [hout], by rw [hcomp], hreset⟩ h

theorem LineServed.timing {s t : State} (h : LineServed s t) : TimingKept s t :=
  ⟨h.rtu.carried, by rw [h.out], by rw [h.out], h.slate, h.resetLow⟩

theorem LineStarted.timing {kind : LineKind} {s t : State} (h : LineStarted kind s t) :
    TimingKept s t :=
  ⟨h.rtu.carried, by rw [h.out], by rw [h.out], h.slate, h.resetLow⟩

/-! ### Output frames -/

/-- What the timing law sees of an output frame start: the output runs, in the timing named, and the stored
slate colour is in force (R55, R64). -/
def State.framed (inputTimed : Bool) (s : State) : State :=
  (s.withOut { s.out with running := true, inputTimed := inputTimed }).withComp
    { s.comp with slate := s.rtu.params.slate }

theorem InternalFrameStarted.timing {startedAt : Nat} {s t : State}
    (h : InternalFrameStarted startedAt s t) : TimingKept (s.framed false) t :=
  ⟨h.rtu.carried, by rw [h.out]; rfl, by rw [h.out]; rfl, h.slate, h.resetLow⟩

theorem FreeRun.Legal.slate {f : FreeRun} (h : f.Legal) : f.slate.Legal := by
  obtain ⟨-, -, -, -, -, -, -, -, -, -, -, hslate⟩ := h
  exact hslate

/-- An output frame that begins outside LOCKED keeps the law. -/
theorem framed_law {s : State} (h : TimingLaw s) (htimed : s.out.inputTimed = false) :
    TimingLaw (s.framed false) := by
  obtain ⟨hfly, hacquire, hwatch, -, hawait, hsome, hregular, hmeasured, hcount, hparams, -, hlow⟩ := h
  rw [htimed] at hawait
  exact ⟨hfly, hacquire, hwatch, by simp [State.framed], hawait, hsome, hregular, hmeasured, hcount,
    hparams, hparams.slate, hlow⟩

theorem startInternalFrame_law (startedAt : Nat) {others : List (State → State)} {s : State}
    (hothers : ServeLine others) (h : TimingLaw s) (htimed : s.out.inputTimed = false) :
    TimingLaw (startInternalFrame startedAt others s) :=
  (startInternalFrame_started startedAt s hothers).timing.law (framed_law h htimed)

theorem internalLine_law (i : Nat) {s : State} (h : TimingLaw s) : TimingLaw (internalLine i [] s) :=
  (outputLineStart_started _ _ _ _ _ (s.withOut { s.out with line := i })
    (List.forall_mem_nil _)).timing.law h

/-! ### Changes of lock state -/

/-- A change of lock state stops the timers of the state left (R42). -/
@[simp] theorem changeLock_rtu (new : LockState) (s : State) : (changeLock new s).rtu =
    { s.rtu with
      lock := new, flywheel := none, acquire := none, watching := false
      frame := if new = .acquiring ∨ new = .locked then s.rtu.frame else none } := by
  simp [changeLock]

/-- Outside LOCKED the output is not in input timing. -/
theorem TimingLaw.internal {s : State} (h : TimingLaw s) (hlock : s.rtu.lock ≠ .locked) :
    s.out.inputTimed = false := by
  obtain ⟨-, -, -, hinput, -⟩ := h
  exact Bool.eq_false_iff.2 fun htimed => hlock (hinput htimed).1

theorem offerLock_law (a b : LockState) (c : LockCause) {s : State} (h : TimingLaw s) :
    TimingLaw (offerLock a b c s) := (offerLock_lineServed a b c s).timing.law h

/-- FREE_RUN may be entered from any state but LOCKED. -/
theorem changeLock_freeRun_law {s : State} (h : TimingLaw s) (hlock : s.rtu.lock ≠ .locked) :
    TimingLaw (changeLock .freeRun s) := by
  have htimed := h.internal hlock
  obtain ⟨-, -, -, -, hawait, -, hregular, hmeasured, hcount, hparams, hcolour, -⟩ := h
  have hawait : s.rtu.awaitSwitch = false := Bool.eq_false_iff.2 fun ha => hlock (hawait.1 ha).1
  rw [TimingLaw, changeLock_rtu]
  exact ⟨by simp, by simp, by simp, by simp [htimed], by simp [hawait], by simp, hregular, hmeasured,
    hcount, hparams, by simpa using hcolour, by simp⟩

/-- A change to ACQUIRING agrees with the law once the acquire timer runs (R43). -/
theorem changeLock_acquiring_law {s : State} (h : TimingLaw s) (hlock : s.rtu.lock ≠ .locked)
    (hreset : s.resetLow = false) (due : Nat) :
    TimingLaw ((changeLock .acquiring s).withRtu
      { (changeLock .acquiring s).rtu with acquire := some due }) := by
  have htimed := h.internal hlock
  obtain ⟨-, -, -, -, hawait, -, hregular, hmeasured, hcount, hparams, hcolour, -⟩ := h
  have hawait : s.rtu.awaitSwitch = false := Bool.eq_false_iff.2 fun ha => hlock (hawait.1 ha).1
  rw [TimingLaw, changeLock_rtu]
  exact ⟨by simp, by simp, by simp, by simp [htimed], by simp [hawait], by simp, hregular, hmeasured,
    hcount, hparams, by simpa using hcolour, by simp [hreset]⟩

/-- A new candidate starts the acquire timer. -/
theorem becomeCandidate_law {f : Option InputFrame} {s : State}
    (h : ∀ due, TimingLaw (s.withRtu { s.rtu with acquire := some due })) :
    TimingLaw (becomeCandidate f s) := h _

/-- In ACQUIRING the acquire timer may start anew. -/
theorem restart_acquire_law {s : State} (h : TimingLaw s) (hlock : s.rtu.lock = .acquiring)
    (due : Nat) : TimingLaw (s.withRtu { s.rtu with acquire := some due }) := by
  obtain ⟨hfly, -, hrest⟩ := h
  exact ⟨hfly, by simp [hlock], hrest⟩

/-- A measured duration is in the range of R42 (R39). -/
theorem InputFrame.duration_range (f : InputFrame) (now : Nat) :
    1 ≤ f.duration now ∧ f.duration now ≤ 4294967295 := by
  simp only [InputFrame.duration]
  split_ifs
  · assumption
  · omega

/-- A regular frame has a regular record (R40, R41). -/
theorem InputFrame.record_regular {f : InputFrame} (h : f.regular = true) : f.record.Regular := by
  simp only [InputFrame.regular, Bool.and_eq_true, decide_eq_true_eq] at h
  exact h.2

theorem InputFrame.regular_of_matches {f : InputFrame} {g : Option Geometry}
    (h : f.matchesGeometry g = true) : f.regular = true := (Bool.and_eq_true_iff.1 h).1

/-- LOCKED is entered with a regular geometry and its flywheel running (R44, R47, R49, R52). -/
theorem enterLocked_law {f : InputFrame} {s : State} (h : TimingLaw s) (hlock : s.rtu.lock ≠ .locked)
    (hreset : s.resetLow = false) (hf : f.regular = true) : TimingLaw (enterLocked f s) := by
  have htimed := h.internal hlock
  have hduration := f.duration_range s.now
  obtain ⟨-, -, -, -, -, -, -, -, hcount, hparams, hcolour, -⟩ := h
  refine offerLock_law _ _ _ ?_
  rw [TimingLaw, startFlywheel, changeLock_rtu]
  exact ⟨by simp, by simp, by simp, by simp [htimed], by simp [htimed], by simp,
    by simpa using InputFrame.record_regular hf, by simpa using hduration, hcount, hparams,
    by simpa using hcolour, by simp [hreset]⟩

/-- In LOCKED the flywheel starts anew (R46, R47). -/
theorem startFlywheel_law {d : Nat} {s : State} (h : TimingLaw s) (hlock : s.rtu.lock = .locked)
    (hd : 1 ≤ d ∧ d ≤ 4294967295) : TimingLaw (startFlywheel d s) := by
  obtain ⟨-, hacquire, hwatch, hinput, hawait, hsome, hregular, -, hrest⟩ := h
  exact ⟨by simp [startFlywheel, hlock], hacquire, hwatch, hinput, hawait,
    fun hl => ⟨(hsome hl).1, rfl⟩, hregular, by simpa [startFlywheel] using hd, hrest⟩

/-! ### Departures from LOCKED -/

/-- The state that leaves LOCKED for `new`, as its internal frame finds it (R46, R47, R53). -/
def departing (new : LockState) (s : State) : State :=
  (changeLock new s).withRtu { (changeLock new s).rtu with
    cur := s.rtu.cur.map InputLine.stripped, prev := s.rtu.prev.map InputLine.stripped,
    awaitSwitch := false }

/-- What happens beside the internal frame at a departure: errors and drops are counted, and the RTU counts
the loss and offers its notification (R50, R150, R190). -/
def departureActs (new : LockState) (cause : LockCause) (errors : List (State → State)) (s : State) :
    List (State → State) × State :=
  interleaved (errors ++ dropActs s.rtu.prev ++ dropActs s.rtu.cur)
    [countLockLoss, offerLock .locked new cause] (departing new s)

theorem departLocked_eq (new : LockState) (cause : LockCause) (errors : List (State → State))
    (s : State) : departLocked new cause errors s =
      startInternalFrame s.now (departureActs new cause errors s).1
        (departureActs new cause errors s).2 := by
  have hnow : (departureActs new cause errors s).2.now = s.now := by
    simp [departureActs, departing]
  conv_rhs => rw [← hnow]
  simp [departLocked, departureActs, departing]

theorem departureActs_serveLine (new : LockState) (cause : LockCause)
    {errors : List (State → State)} (s : State) (h : ServeLine errors) :
    ServeLine (departureActs new cause errors s).1 := by
  refine .interleaved ?_ ?_ _
  · exact List.forall_mem_append.2 ⟨List.forall_mem_append.2 ⟨h, dropActs_serveLine _⟩,
      dropActs_serveLine _⟩
  · exact List.forall_mem_cons.2 ⟨countLockLoss_lineServed,
      List.forall_mem_singleton.2 (offerLock_lineServed _ _ _)⟩

/-- Outside LOCKED the layout of an internal frame is that of the RTU (R54). -/
theorem internalLayout_congr {s t : State} (hrtu : t.rtu = s.rtu) (hlock : s.rtu.lock ≠ .locked) :
    internalLayout t = internalLayout s := by
  unfold internalLayout
  rw [hrtu]
  split
  · rfl
  · rfl
  · rfl
  · contradiction

/-- At a departure an internal frame starts in the layout of the new lock state (R46, R47, R53). -/
theorem departLocked_started {new : LockState} (hnew : new ≠ .locked) (cause : LockCause)
    {errors : List (State → State)} (s : State) (h : ServeLine errors) :
    InternalFrameStarted s.now (departing new s) (departLocked new cause errors s) := by
  have hstarted := startInternalFrame_started s.now (departureActs new cause errors s).2
    (departureActs_serveLine new cause s h)
  rw [← departLocked_eq] at hstarted
  have hrtu : (departureActs new cause errors s).2.rtu = (departing new s).rtu := by
    simp [departureActs]
  have hlayout := internalLayout_congr hrtu (by simpa [departing] using hnew)
  constructor
  case rtu => exact hrtu ▸ hstarted.rtu
  case out =>
    rw [hstarted.out, hlayout]
    simp [departureActs]
  case slate => rw [hstarted.slate, hrtu]
  case resetLow => exact hstarted.resetLow.trans (by simp [departureActs])
  case now => exact hstarted.now.trans (by simp [departureActs])

/-- The acquire timer may be set on both sides. -/
theorem TimingKept.withAcquire {s t : State} (h : TimingKept s t) (due : Option Nat) :
    TimingKept (s.withRtu { s.rtu with acquire := due }) (t.withRtu { t.rtu with acquire := due }) := by
  obtain ⟨⟨hrtu, hlegal⟩, hin, hrun, hslate, hreset⟩ := h
  refine ⟨⟨?_, hlegal⟩, hin, hrun, hslate, hreset⟩
  simp only [State.withRtu_rtu]
  rw [hrtu]

/-- LOCKED may be left for ACQUIRING, whose timer then starts. -/
theorem departing_acquiring_law {s : State} (h : TimingLaw s) (hreset : s.resetLow = false)
    (due : Nat) :
    TimingLaw (((departing .acquiring s).framed false).withRtu
      { (departing .acquiring s).rtu with acquire := some due }) := by
  obtain ⟨-, -, -, -, -, -, hregular, hmeasured, hcount, hparams, -, -⟩ := h
  rw [TimingLaw, departing, changeLock_rtu]
  exact ⟨by simp, by simp, by simp, by simp [State.framed], by simp, by simp, hregular, hmeasured,
    hcount, hparams, hparams.slate, by simp [State.framed, hreset]⟩

/-- LOCKED may be left for HOLDOVER or FREE_RUN (R47). -/
theorem departing_internal_law {new : LockState} {s : State} (h : TimingLaw s)
    (hlock : s.rtu.lock = .locked) (hreset : s.resetLow = false)
    (hnew : new = .freeRun ∨ new = .holdover) : TimingLaw ((departing new s).framed false) := by
  obtain ⟨-, -, -, -, -, hsome, hregular, hmeasured, hcount, hparams, -, -⟩ := h
  have hsome := hsome (.inl hlock)
  rw [TimingLaw, State.framed, departing, changeLock_rtu]
  refine ⟨?_, ?_, by simp, by simp, ?_, fun _ => hsome, hregular, hmeasured, hcount, hparams,
    hparams.slate, by simp [hreset]⟩
  all_goals rcases hnew with rfl | rfl <;> simp

/-! ### Timed events -/

theorem expireAcquire_law {s : State} (due : Nat) (h : TimingLaw s)
    (hlock : s.rtu.lock = .acquiring) : TimingLaw (expireAcquire due s) :=
  offerLock_law _ _ _ (changeLock_freeRun_law h (by simp [hlock]))

theorem expireFlywheel_law {s : State} (due : Nat) (h : TimingLaw s) (hlock : s.rtu.lock = .locked)
    (hreset : s.resetLow = false) : TimingLaw (expireFlywheel due s) := by
  simp only [expireFlywheel]
  split_ifs
  · exact (departLocked_started (by decide) _ _ (List.forall_mem_nil _)).timing.law
      (departing_internal_law h hlock hreset (.inl rfl))
  · refine (departLocked_started (by decide) _ _ (List.forall_mem_nil _)).timing.law
      (departing_internal_law ?_ hlock hreset (.inr rfl))
    obtain ⟨hfly, hacquire, hwatch, hinput, hawait, hsome, hregular, hmeasured, -, hrest⟩ := h
    exact ⟨hfly, hacquire, hwatch, hinput, hawait, hsome, hregular, hmeasured, Nat.zero_le _, hrest⟩

/-- The holdover count stays within its octet (R48). -/
theorem holdoverCount_law {s : State} (h : TimingLaw s) :
    TimingLaw (s.withRtu { s.rtu with holdoverCount := stopAt 255 s.rtu.holdoverCount }) := by
  obtain ⟨hfly, hacquire, hwatch, hinput, hawait, hsome, hregular, hmeasured, hcount, hrest⟩ := h
  refine ⟨hfly, hacquire, hwatch, hinput, hawait, hsome, hregular, hmeasured, ?_, hrest⟩
  simp only [State.withRtu_rtu, stopAt]
  split_ifs <;> omega

theorem nextInternalFrame_law {s : State} (h : TimingLaw s) (htimed : s.out.inputTimed = false) :
    TimingLaw (nextInternalFrame s) := by
  simp only [nextInternalFrame]
  generalize (if s.out.running = true then s.out.startedAt + s.out.period * 1000 else s.now) = begins
  have hadvanced : TimingLaw (s.advanceTo begins) := h
  split_ifs with hlock
  · refine startInternalFrame_law _ (List.forall_mem_singleton.2 (offerLock_lineServed _ _ _))
      (changeLock_freeRun_law (holdoverCount_law hadvanced) ?_) (by simpa using htimed)
    rw [State.withRtu_rtu, hlock]
    decide
  · exact startInternalFrame_law _ (List.forall_mem_nil _) (holdoverCount_law hadvanced) htimed
  · exact startInternalFrame_law _ (List.forall_mem_nil _) hadvanced htimed

/-- The pacing of internal frames acts only out of input timing. -/
theorem TimingLaw.paced {s : State} (h : TimingLaw s)
    (hpaced : ¬ (s.out.running && s.out.inputTimed) = true) : s.out.inputTimed = false := by
  obtain ⟨-, -, -, hinput, -⟩ := h
  refine Bool.eq_false_iff.2 fun htimed => hpaced ?_
  rw [htimed, (hinput htimed).2]
  rfl

theorem paceInternal_law {s : State} (h : TimingLaw s) : TimingLaw (paceInternal s) := by
  simp only [paceInternal]
  split_ifs with hpaced
  · exact h
  · exact nextInternalFrame_law h (h.paced hpaced)
  · exact internalLine_law (s := s.advanceTo _) _ h

/-! ### Input lines -/

/-- The lock-state rules of an input frame start keep the law (R43 to R49). -/
theorem takeFrameStart_law (ended : Option InputFrame) {errors : List (State → State)} {s : State}
    (herrors : ServeLine errors) (h : TimingLaw s) (hreset : s.resetLow = false) :
    TimingLaw (takeFrameStart ended errors s) := by
  have hdepart : ∀ f, TimingLaw (becomeCandidate f (departLocked .acquiring .mismatch errors s)) :=
    fun f => becomeCandidate_law fun due =>
      ((departLocked_started (by decide) .mismatch s herrors).timing.withAcquire (some due)).law
        (departing_acquiring_law h hreset due)
  have hacquiring : s.rtu.lock ≠ .locked → ∀ f, TimingLaw (becomeCandidate f (changeLock .acquiring s)) :=
    fun hlock f => becomeCandidate_law (changeLock_acquiring_law h hlock hreset)
  unfold takeFrameStart
  split <;> rename_i hlock
  · exact offerLock_law _ _ _ (hacquiring (by simp [hlock]) none)
  · split
    · split_ifs with hmatch
      · exact enterLocked_law h (by simp [hlock]) hreset (InputFrame.regular_of_matches hmatch)
      · exact becomeCandidate_law (restart_acquire_law h hlock)
    · exact becomeCandidate_law (restart_acquire_law h hlock)
  · split
    · split_ifs
      · exact startFlywheel_law h hlock (InputFrame.duration_range _ _)
      · exact hdepart _
    · exact hdepart _
  · split_ifs
    · split
      · split_ifs with hmatch
        · exact enterLocked_law h (by simp [hlock]) hreset (InputFrame.regular_of_matches hmatch)
        · exact offerLock_law _ _ _ (hacquiring (by simp [hlock]) _)
      · exact h
    · obtain ⟨hfly, hacquire, -, hrest⟩ := h
      exact ⟨hfly, hacquire, fun _ => hlock, hrest⟩

/-- The first line of a frame in input timing starts in LOCKED, the switch done (R51, R52). -/
theorem carryLine_first_law (a : InputLine) (b : Option InputLine) {errors : List (State → State)}
    {s : State} (herrors : ServeLine errors) (h : TimingLaw s) (hlock : s.rtu.lock = .locked) :
    TimingLaw (carryLine true a b errors (s.withRtu { s.rtu with awaitSwitch := false })) := by
  obtain ⟨hfly, hacquire, hwatch, -, -, hsome, hregular, hmeasured, hcount, hparams, -, hlow⟩ := h
  simp only [carryLine, if_true]
  refine (outputLineStart_started _ _ _ _ _ _ herrors).timing.law ?_
  rw [TimingLaw, outputFrameStart_out, outputFrameStart_slate]
  simp only [outputFrameStart_keeps]
  exact ⟨hfly, hacquire, hwatch, fun _ => ⟨hlock, trivial⟩, by simp, hsome, hregular, hmeasured, hcount,
    hparams, hparams.slate, hlow⟩

theorem followInput_law (a b : Option InputLine) (index : Nat) {errors : List (State → State)}
    {s : State} (herrors : ServeLine errors) (h : TimingLaw s) :
    TimingLaw (followInput a b index errors s) := by
  unfold followInput
  split
  · rename_i line hlock
    split_ifs with htimed
    · cases hfirst : line.frameStart with
      | true =>
        have hswitched : s.withRtu { s.rtu with awaitSwitch := false } = s := by
          obtain ⟨-, -, -, -, hawait, -⟩ := h
          have : s.rtu.awaitSwitch = false := by simpa [htimed] using hawait
          rw [← this]; rfl
        have := carryLine_first_law line b herrors h hlock
        rwa [hswitched] at this
      | false =>
        exact (outputLineStart_started _ _ _ _ _ (s.withOut { s.out with line := s.out.line + 1 })
          herrors).timing.law h
    · exact carryLine_first_law line b herrors h hlock
    · exact (herrors.run s).timing.law h
  · exact (herrors.run s).timing.law h

theorem takeLineStart_law (bits : BitVec 31) (clock : Nat) {s : State} (h : TimingLaw s)
    (hreset : s.resetLow = false) : TimingLaw (takeLineStart bits clock s) := by
  have hended := endParseActs_serveLine s
  have hbegin : TimingLaw (endLine (s.advanceTo clock)) := by
    unfold endLine; split <;> exact h
  have hparse : ∀ k (x : State) p c, TimingLaw x →
      TimingLaw (beginParse k (x.withRtu { x.rtu with prev := p, cur := c })) := fun k x p c hx =>
    TimingKept.law (s := x.withRtu { x.rtu with prev := p, cur := c })
      ⟨by simpa using RasterTiming.Carried.refl _, by simp, by simp, by simp, by simp⟩ hx
  simp only [takeLineStart]
  refine hparse _ _ _ _ (followInput_law _ _ _ ?errors ?start)
  case errors =>
    split_ifs
    · exact List.forall_mem_nil _
    · exact hended
  case start =>
    split_ifs
    · exact takeFrameStart_law (s := endLine (s.advanceTo clock)) _ hended hbegin (by simpa using hreset)
    · exact hbegin

/-! ### Rows -/

/-- A row that acts only while RESET is high keeps the law, if its effect does then. -/
theorem whileRunning_law {effect : State → State} {s t : State} (h : TimingLaw s)
    (heffect : s.resetLow = false → TimingLaw (effect s)) (hnext : whileRunning effect s = .next t) :
    TimingLaw t := by
  unfold whileRunning at hnext
  split_ifs at hnext with hlow <;> cases hnext
  · exact h
  · exact heffect (by simpa using hlow)

theorem handOver_law {seq code : Byte} {p : List Byte} {s t : State} (h : TimingLaw s)
    (hnext : handOver seq code p s = .next t) : TimingLaw t := by
  unfold handOver at hnext
  split_ifs at hnext <;> cases hnext
  · exact (intakeAddressed_served seq code p s).law (by simp) (by simp) (by simp) h
  · exact h

theorem intakeBroadcast_law (code : Byte) (p : List Byte) {s : State} (h : TimingLaw s) :
    TimingLaw (intakeBroadcast code p s) :=
  (intakeBroadcast_served code p s).law (by simp) (by simp) (by simp) h

/-- The RTU, the output and the slate colour of a reset agree, whatever the level of RESET (R42, R61). -/
theorem timingLaw_initial {s : State} (hrtu : s.rtu = .initial) (hout : s.out = .initial)
    (hcomp : s.comp = .initial) : TimingLaw s := by
  rw [TimingLaw, hrtu, hout, hcomp]
  simp only [RasterTiming.initial, OutputRaster.initial, Compositor.initial]
  exact ⟨by simp, by simp, by simp, by simp, by simp, by simp, by simp, by simp, by simp,
    default_freeRun_legal, by decide, by simp⟩

theorem startFirstFrame_law {s : State} (h : TimingLaw s) (htimed : s.out.inputTimed = false) :
    TimingLaw (startFirstFrame s) := startInternalFrame_law _ (List.forall_mem_nil _) h htimed

/-- Every row keeps the timing law. -/
theorem exec_timingLaw {c : Instr} {s t : State} (h : TimingLaw s) (hnext : exec c s = .next t) :
    TimingLaw t := by
  cases c with
  | powerOn => cases hnext; exact startFirstFrame_law (timingLaw_initial rfl rfl rfl) rfl
  | pinReset => cases hnext; exact timingLaw_initial rfl rfl rfl
  | resetRelease =>
    simp only [exec, execResetRelease] at hnext
    split_ifs at hnext with hlow <;> cases hnext
    · have hlock : s.rtu.lock = .freeRun := by
        obtain ⟨-, -, -, -, -, -, -, -, -, -, -, hfree⟩ := h
        exact hfree hlow
      have htimed := h.internal (by simp [hlock])
      obtain ⟨hfly, hacquire, hwatch, hinput, hawait, hsome, hregular, hmeasured, hcount, hparams,
        hcolour, -⟩ := h
      exact startFirstFrame_law ⟨hfly, hacquire, hwatch, hinput, hawait, hsome, hregular, hmeasured,
        hcount, hparams, hcolour, by simp⟩ htimed
    · exact h
  | inputLineStart bits clock => exact whileRunning_law h (takeLineStart_law bits clock h) hnext
  | inputPixelWord bits =>
    exact whileRunning_law h (fun _ => TimingKept.law ⟨takePixelWord_carried bits s, by simp, by simp,
      by simp, by simp⟩ h) hnext
  | acquireTimerExpiry =>
    simp only [exec, execAcquireTimerExpiry] at hnext
    split at hnext
    · rename_i hlock _
      exact whileRunning_law h (fun _ => expireAcquire_law _ h hlock) hnext
    · cases hnext; exact h
  | flywheelExpiry =>
    simp only [exec, execFlywheelExpiry] at hnext
    split at hnext
    · rename_i hlock _
      exact whileRunning_law h (expireFlywheel_law _ h hlock) hnext
    · cases hnext; exact h
  | internalLineStart => exact whileRunning_law h (fun _ => paceInternal_law h) hnext
  | holdoverLimit =>
    simp only [exec, execHoldoverLimit] at hnext
    split_ifs at hnext with hlimit
    · simp only [atHoldoverLimit, Bool.and_eq_true, decide_eq_true_eq] at hlimit
      obtain ⟨⟨⟨hlock, -⟩, -⟩, -⟩ := hlimit
      exact whileRunning_law h (fun _ => nextInternalFrame_law h (h.internal (by simp [hlock]))) hnext
    · cases hnext; exact h
  | editExpiry =>
    simp only [exec, execEditExpiry] at hnext
    split_ifs at hnext
    · exact whileRunning_law h (fun _ => RasterTiming.Served.law (.of_eq (by simp)) (by simp) (by simp)
        (by simp) h) hnext
    · cases hnext; exact h
  | sfBurstComplete =>
    simp only [exec, execSfBurstComplete] at hnext
    split at hnext
    · split_ifs at hnext; cases hnext
      exact RasterTiming.Served.law (.of_eq (by simp)) (by simp) (by simp) (by simp) h
    · cases hnext; exact h
  | ceBurstComplete =>
    simp only [exec, execCeBurstComplete] at hnext
    split at hnext
    · split_ifs at hnext; cases hnext
      exact (completeEngineBurst_served _ s).law (by simp) (by simp) (by simp) h
    · cases hnext; exact h
  | storeChecksComplete =>
    simp only [exec, execStoreChecksComplete] at hnext
    split at hnext
    · split_ifs at hnext <;> cases hnext
      · exact h
      · exact (completeChecks_served _ s).law (by simp) (by simp) (by simp) h
    · cases hnext; exact h
  | reportCountdown region =>
    simp only [exec, execReportCountdown] at hnext
    split at hnext
    · split_ifs at hnext
      · exact whileRunning_law h (fun _ => RasterTiming.Served.law (.of_eq (by simp)) (by simp)
          (by simp) (by simp) h) hnext
      · cases hnext; exact h
    · cases hnext; exact h
  | commandBegin =>
    exact whileRunning_law h (fun _ => (settleEngine_served s).law (by simp) (by simp) (by simp) h) hnext
  | broadcastCommit p =>
    simp only [exec, execBroadcastCommit] at hnext
    split_ifs at hnext <;> cases hnext
    · exact intakeBroadcast_law _ p h
    · exact h
  | nodeReset broadcast seq p =>
    simp only [exec, execNodeReset] at hnext
    split_ifs at hnext
    · cases hnext; exact intakeBroadcast_law _ p h
    · cases hnext; exact h
    · exact handOver_law h hnext
  | storeClearingDone => cases hnext; exact h
  | unknownCode | readInfo | readStatus | clearCounters | setNotifyMask | setTiming | editOpen
  | editCloseDiscard | editCloseKeep | editCloseCommit | sequencedCommit | setRegion | setPalette
  | setCue | readRegion | readPalette | readCue | ovlWrite | ovlFill | ovlCopy | ovlRead | setFence
  | readFence | readMeasure | setReport | cancel => exact handOver_law h hnext

/-- Settles O10: a step runs one row, and every row keeps the law. -/
theorem stepKeepsTimingLaw : Obligations.StepKeepsTimingLaw := by
  unfold Obligations.StepKeepsTimingLaw
  intro s t hs h
  unfold step at h
  split at h
  · cases h; exact hs
  · exact exec_timingLaw (by exact hs) h

end Sys2Proof.Machine
end

section
/-! The words of the input port, and the acquire timer's expiry (R38, R42, R45, R138, R140, R195). -/

namespace Sys2Proof.Machine

/-! ### Words of the input port -/

/-- A word received with nothing waiting is the command that bit 31 picks (R195). -/
theorem step_receive {s : State} (w : Word) (clock : Nat) (h : s.pending = []) :
    step (s.receive w clock) = exec (inputWordCommand w clock) s := by
  simp only [step, State.receive, h, List.nil_append]
  rw [← h]

/-- An output start word is taken for a line of its kind and flag (R195). -/
theorem lineOf_startWord (kind : LineKind) (frameStart : Bool) (clock : Nat) :
    inputWordCommand (startWord kind frameStart) clock =
      .inputLineStart ((startWord kind frameStart).setWidth 31) clock ∧
    lineOf ((startWord kind frameStart).setWidth 31) =
      { kind := kind, frameStart := frameStart, words := [], overLong := false, unclean := false,
        forward := [] } := by
  cases kind <;> cases frameStart <;> exact ⟨rfl, rfl⟩

/-- An output pixel word is taken for its pixel (R195). -/
theorem inputWordCommand_pixelWord (p : Pixel) (clock : Nat) :
    inputWordCommand (pixelWord p) clock = .inputPixelWord ((pixelWord p).setWidth 31) ∧
    ((pixelWord p).setWidth 31).setWidth 30 = p := by
  refine ⟨?_, ?_⟩
  · simp [inputWordCommand, pixelWord]
  · apply BitVec.eq_of_toNat_eq
    have := p.isLt
    simp only [pixelWord, BitVec.toNat_setWidth]
    omega

/-- The packet area takes the low 8 bits of each channel (R138). -/
theorem areaOctets_pixel {c : Colour} (h : c.Legal) :
    areaOctets c.pixel = [octet c.c0, octet c.c1, octet c.c2] := by
  have hlt := Colour.packed_lt h
  obtain ⟨h0, h1, h2⟩ := h
  have hextract : ∀ start v, c.packed / 2 ^ start % 256 = v % 256 →
      c.pixel.extractLsb' start 8 = octet v := fun start v hv => by
    apply BitVec.eq_of_toNat_eq
    have hpacked : c.packed % 2 ^ 30 = c.packed := Nat.mod_eq_of_lt hlt
    rw [BitVec.extractLsb'_toNat, octet_toNat, Colour.pixel, BitVec.toNat_ofNat, hpacked,
      Nat.shiftRight_eq_div_pow]
    exact hv
  simp only [areaOctets, hextract 20 c.c0 (by simp only [Colour.packed]; omega),
    hextract 10 c.c1 (by simp only [Colour.packed]; omega),
    hextract 0 c.c2 (by simp only [Colour.packed]; omega)]

/-- Settles O20. -/
theorem pixelWordIsKept : Obligations.PixelWordIsKept := by
  unfold Obligations.PixelWordIsKept
  refine ⟨fun s w clock h => ?_, fun kind frameStart clock => ⟨_, lineOf_startWord kind frameStart clock⟩,
    fun p clock => ⟨_, inputWordCommand_pixelWord p clock⟩, fun c => areaOctets_pixel,
    fun s bits hreset => ?_⟩
  · rw [step_receive w clock h, inputWordCommand]
    split_ifs <;> rfl
  · have hexec : exec (.inputPixelWord bits) s = .next (takePixelWord bits s) :=
      whileRunning_high hreset
    rw [hexec]
    refine ⟨fun hnone => ?_, fun l hcur => ⟨fun hroom hkind => ?_, fun hroom hkind => ?_,
      fun hfull => ?_⟩⟩
    · simp only [takePixelWord, hnone]
    · simp only [takePixelWord, hcur, Config.lineWords, if_pos hroom, if_neg hkind]
      rfl
    · simp only [takePixelWord, hcur, Config.lineWords, if_pos hroom, if_pos hkind]
      rfl
    · simp only [takePixelWord, hcur, Config.lineWords, if_neg (Nat.not_lt.2 hfull)]
      rfl

/-! ### The acquire timer -/

/-- A frame under measurement is incomplete once it is spoilt (R123). -/
theorem spoilMeasurement_mon (s : State) : (spoilMeasurement s).mon =
    { s.mon with complete := s.mon.complete && !s.mon.measuring } := by
  unfold spoilMeasurement
  split_ifs with h
  · simp [h]
  · have hcomplete : (s.mon.complete && !s.mon.measuring) = s.mon.complete := by simp [h]
    rw [hcomplete]

theorem changeLock_mon (new : LockState) (s : State) : (changeLock new s).mon =
    { s.mon with complete := s.mon.complete && !s.mon.measuring } := by
  rw [changeLock, spoilMeasurement_mon]
  rfl

/-- A change of lock state as a whole (R39, R42, R123). -/
theorem changeLock_eq (new : LockState) (s : State) : changeLock new s = { s with
    rtu := { s.rtu with
      lock := new, flywheel := none, acquire := none, watching := false
      frame := if new = .acquiring ∨ new = .locked then s.rtu.frame else none }
    mon := { s.mon with complete := s.mon.complete && !s.mon.measuring } } := by
  rw [← changeLock_rtu, ← changeLock_mon]
  have hkeeps := changeLock_keeps new s
  cases hlock : changeLock new s
  simp_all

/-- Settles O21. -/
theorem acquireExpiryReturnsToFreeRun : Obligations.AcquireExpiryReturnsToFreeRun := by
  unfold Obligations.AcquireExpiryReturnsToFreeRun
  intro s due hreset hlock hdue
  simp only [exec, execAcquireTimerExpiry, hlock, hdue]
  rw [whileRunning_high hreset, expireAcquire, changeLock_eq]
  rfl

end Sys2Proof.Machine
end

section
/-! Departures from LOCKED and the end of HOLDOVER, with no command waiting: what is counted and queued
beside the internal frame (R46 to R50, R53, R54, R58, R150, R190). -/

namespace Sys2Proof.Machine

/-! ### Counters that acts of one moment raise -/

/-- The act adds `k` to a 16-bit counter, which stops at its limit (R190). -/
def Raises (f : State → Nat) (act : State → State) (k : Nat) : Prop :=
  ∀ x, f x ≤ 65535 → f (act x) = min 65535 (f x + k)

/-- The acts add `n` to the counter, each its part. -/
def RaisesBy (f : State → Nat) (acts : List (State → State)) (n : Nat) : Prop :=
  ∃ ks, List.Forall₂ (Raises f) acts ks ∧ ks.sum = n

section Raising
variable {f : State → Nat}

theorem raises_zero {act : State → State} (h : ∀ x, f (act x) = f x) : Raises f act 0 := fun x hx => by
  rw [h, Nat.add_zero, Nat.min_eq_right hx]

theorem RaisesBy.nil : RaisesBy f [] 0 := ⟨[], .nil, rfl⟩

theorem RaisesBy.cons {act : State → State} {acts : List (State → State)} {k n : Nat}
    (hact : Raises f act k) (h : RaisesBy f acts n) : RaisesBy f (act :: acts) (k + n) := by
  obtain ⟨ks, hks, rfl⟩ := h
  exact ⟨k :: ks, .cons hact hks, List.sum_cons⟩

theorem RaisesBy.append {xs ys : List (State → State)} {m n : Nat} (hxs : RaisesBy f xs m)
    (hys : RaisesBy f ys n) : RaisesBy f (xs ++ ys) (m + n) := by
  obtain ⟨ks, hks, rfl⟩ := hxs
  obtain ⟨ls, hls, rfl⟩ := hys
  exact ⟨ks ++ ls, List.rel_append hks hls, List.sum_append⟩

/-- Acts that keep the counter add nothing. -/
theorem RaisesBy.of_keeps {acts : List (State → State)} (h : ∀ act ∈ acts, ∀ x, f (act x) = f x) :
    RaisesBy f acts 0 := by
  induction acts with
  | nil => exact .nil
  | cons act acts ih =>
    obtain ⟨hact, hacts⟩ := List.forall_mem_cons.1 h
    exact .cons (raises_zero hact) (ih hacts)

/-- The order does not matter: parts may come interleaved. -/
theorem RaisesBy.interleaved {xs ys : List (State → State)} {m n : Nat} (hxs : RaisesBy f xs m)
    (hys : RaisesBy f ys n) (s : State) : RaisesBy f (interleaved xs ys s).1 (m + n) := by
  obtain ⟨ks, hks, hsum⟩ := hxs.append hys
  obtain ⟨ls, hls, hperm⟩ := List.perm_comp_forall₂ (interleaved_spec xs ys s).1 hks
  exact ⟨ls, hls, hperm.sum_eq.trans hsum⟩

/-- The counter after the acts. -/
theorem RaisesBy.run {acts : List (State → State)} {n : Nat} (h : RaisesBy f acts n) {s : State}
    (hs : f s ≤ 65535) : f (runActs acts s) = min 65535 (f s + n) := by
  obtain ⟨ks, hks, rfl⟩ := h
  induction hks generalizing s with
  | nil => exact (raises_zero (act := id) fun _ => rfl) s hs
  | @cons act k acts ks hact _ ih =>
    have hone := hact s hs
    rw [runActs_cons, ih (by omega), hone, List.sum_cons]
    omega

end Raising

/-- A count of one more (R190). -/
theorem countUp_eq {n : Nat} (h : n ≤ 65535) : countUp n = min 65535 (n + 1) := by
  simp only [countUp, stopAt]
  split_ifs <;> omega

/-- Each packet of a dropped forward list is counted (R150). -/
theorem dropActs_raises (l : Option InputLine) : RaisesBy (fun s => s.mlu.notForwarded) (dropActs l)
    ((l.map fun l => l.forward.length).getD 0) := by
  have hone : Raises (fun s => s.mlu.notForwarded) countNotForwarded 1 := fun _ => countUp_eq
  have hmany : ∀ n, RaisesBy (fun s => s.mlu.notForwarded) (List.replicate n countNotForwarded) n := by
    intro n
    induction n with
    | zero => exact .nil
    | succ n ih =>
      rw [List.replicate_succ, Nat.add_comm]
      exact .cons hone ih
  cases l with
  | none => exact .nil
  | some l => exact hmany _

/-! ### Notifications that stay queued -/

/-- The mask is as it was and the queue has only grown (R183). -/
structure Growing (s t : State) : Prop where
  mask : t.nq.mask = s.nq.mask
  entries : s.nq.entries <+: t.nq.entries

theorem Growing.of_eq {s t : State} (h : t.nq = s.nq) : Growing s t :=
  ⟨by rw [h], by rw [h]⟩

theorem Growing.trans {s t u : State} (h : Growing s t) (k : Growing t u) : Growing s u :=
  ⟨k.mask.trans h.mask, h.entries.trans k.entries⟩

/-- What comes before may leave the queue alone. -/
theorem Growing.behind {s t u : State} (k : Growing t u) (h : t.nq = s.nq) : Growing s u :=
  (Growing.of_eq h).trans k

theorem offerWith_growing (frame : BitVec 16) (n : Notice) (s : State) :
    Growing s (offerWith frame n s) := by
  unfold offerWith
  split_ifs
  · exact ⟨rfl, List.prefix_append ..⟩
  · exact ⟨rfl, List.prefix_rfl⟩
  · exact .of_eq rfl

theorem Growing.run {acts : List (State → State)} (h : ∀ act ∈ acts, ∀ x, Growing x (act x))
    (s : State) : Growing s (runActs acts s) :=
  runActs_induct (P := Growing s) (fun act hact x hx => hx.trans (h act hact x)) (.of_eq rfl)

/-- An offer queues its notification, unless it is masked or the queue is full (R183). -/
theorem offer_queuedNow (n : Notice) (s : State) : QueuedNow n (offer n s) := by
  simp only [QueuedNow, offer, offerWith_keeps]
  unfold offerWith
  split_ifs with hmask hroom
  · exact .inr (.inr ⟨s.mlu.assembled, by simp⟩)
  · exact .inr (.inl (by simpa [Config.notifyPlaces] using hroom))
  · exact .inl (by simpa using hmask)

/-- A queued notification stays queued while the queue grows within the frame. -/
theorem QueuedNow.growing {n : Notice} {s t : State} (h : QueuedNow n s) (k : Growing s t)
    (hcounter : t.out.counter = s.out.counter) : QueuedNow n t := by
  obtain hmask | hfull | ⟨line, hline⟩ := h
  · exact .inl (k.mask ▸ hmask)
  · exact .inr (.inl (hfull.trans k.entries.length_le))
  · exact .inr (.inr ⟨line, hcounter ▸ k.entries.subset hline⟩)

/-- What is offered among acts that let the queue grow is queued behind them. -/
theorem queuedNow_run {n : Notice} {acts : List (State → State)} (hmem : offer n ∈ acts)
    (hgrow : ∀ act ∈ acts, ∀ x, Growing x (act x)) (hserve : ServeLine acts) (s : State) :
    QueuedNow n (runActs acts s) := by
  obtain ⟨before, after, rfl⟩ := List.mem_iff_append.1 hmem
  rw [runActs_append, runActs_cons]
  have hafter : ∀ act ∈ after, act ∈ before ++ offer n :: after := fun act hact =>
    List.mem_append_right _ (List.mem_cons_of_mem _ hact)
  exact runActs_induct (P := QueuedNow n) (fun act hact x hx => hx.growing (hgrow act (hafter act hact) x)
    (by rw [(hserve act (hafter act hact) x).out])) (offer_queuedNow n _)

/-! ### An internal frame with no command waiting -/

/-- The act leaves the RTU and the MLU, and lets the notification queue grow. -/
structure Idle (s t : State) : Prop where
  rtu : t.rtu = s.rtu
  mlu : t.mlu = s.mlu
  nq : Growing s t

/-- With no command waiting none executes at an activation event. -/
theorem activationActs_idle {s : State} (h : s.ce.queue = []) :
    ∀ act ∈ activationActs s, ∀ x, Idle x (act x) := by
  have hready : ∀ x y, Idle x y → Idle x (setReady y) := fun x y hy =>
    ⟨by simpa using hy.rtu, by simpa using hy.mlu, hy.nq.trans (.of_eq (by simp))⟩
  have hcount : ∀ x, Idle x (countEdit x) := fun x => by
    refine ⟨by simp, by simp, ?_⟩
    unfold countEdit
    split_ifs
    · exact Growing.behind (t := discardEdit x) (offerWith_growing ..) rfl
    · exact .of_eq rfl
  have hcommit : ∀ x, Idle x (commitNow x) := fun x => by
    refine ⟨commitNow_rtu x, ?_, .of_eq ?_⟩ <;>
    · simp only [commitNow, takeCommitApplied]
      split <;> simp
  unfold activationActs
  split_ifs
  · exact List.forall_mem_singleton.2 fun x => hready x _ (hcount x)
  · simp only [settleActs, h, List.length_nil, List.replicate_zero]
    exact List.forall_mem_singleton.2 hcommit
  · exact List.forall_mem_singleton.2 fun x => hready x x ⟨rfl, rfl, .of_eq rfl⟩

theorem dueActivationActs_idle {s : State} (h : s.ce.queue = []) :
    ∀ act ∈ dueActivationActs s, ∀ x, Idle x (act x) := by
  unfold dueActivationActs
  split_ifs
  · exact List.forall_mem_nil _
  · exact List.forall_mem_cons.2 ⟨fun x => ⟨rfl, rfl, .of_eq rfl⟩, activationActs_idle h⟩

/-- The acts of line 0 of an internal frame. -/
def firstLineActs (startedAt : Nat) (others : List (State → State)) (s : State) :
    List (State → State) × State :=
  lineEventActs (decide (0 + 1 = (internalLayout s).1.firstActive)) others
    (internalFrameStart startedAt s)

/-- The activation event that line 0 may raise. -/
def firstActivation (startedAt : Nat) (s : State) : List (State → State) :=
  if decide (0 + 1 = (internalLayout s).1.firstActive) then
    dueActivationActs (internalFrameStart startedAt s) else []

/-- No frame end is due at line 0, so that its acts are those of the activation event and the others. -/
theorem firstLineActs_eq (startedAt : Nat) (others : List (State → State)) (s : State) :
    firstLineActs startedAt others s = interleaved (firstActivation startedAt s) others
      (internalFrameStart startedAt s) := by
  have hdue : dueFrameEndActs (internalFrameStart startedAt s) = [] := by
    simp [dueFrameEndActs, frameEndDue, internalFrameStart_out]
  simp only [firstLineActs, lineEventActs, hdue, List.nil_append, firstActivation]

theorem firstActivation_idle (startedAt : Nat) {s : State} (h : s.ce.queue = []) :
    ∀ act ∈ firstActivation startedAt s, ∀ x, Idle x (act x) := by
  have hce : (internalFrameStart startedAt s).ce = s.ce := by simp [internalFrameStart_keeps]
  unfold firstActivation
  split_ifs
  · exact dueActivationActs_idle (by rw [hce]; exact h)
  · exact List.forall_mem_nil _

theorem startInternalFrame_run (startedAt : Nat) (others : List (State → State)) (s : State) :
    startInternalFrame startedAt others s =
      setTx (startWord .blank true :: List.replicate (internalLayout s).1.width 0)
        (runActs (firstLineActs startedAt others s).1 (firstLineActs startedAt others s).2) :=
  startInternalFrame_eq startedAt others s

/-- The acts of line 0 begin with the RTU and the MLU of the frame start. -/
theorem firstLineActs_start (startedAt : Nat) (others : List (State → State)) (s : State) :
    (firstLineActs startedAt others s).2.rtu = s.rtu ∧
    (firstLineActs startedAt others s).2.mlu = s.mlu ∧
    (firstLineActs startedAt others s).2.nq = (internalFrameStart startedAt s).nq := by
  simp [firstLineActs, internalFrameStart_keeps]

section IdleFrame
variable {startedAt : Nat} {others : List (State → State)} {s : State} (hq : s.ce.queue = [])
include hq

/-- What the other acts keep of the RTU and the MLU, the internal frame keeps. -/
theorem startInternalFrame_keeps_idle {β : Type} (f : RasterTiming → ManagementUnit → β)
    (hothers : ∀ act ∈ others, ∀ x, f (act x).rtu (act x).mlu = f x.rtu x.mlu) :
    f (startInternalFrame startedAt others s).rtu (startInternalFrame startedAt others s).mlu =
      f s.rtu s.mlu := by
  obtain ⟨hrtu, hmlu, -⟩ := firstLineActs_start startedAt others s
  rw [startInternalFrame_run, ← hrtu, ← hmlu]
  simp only [setTx_keeps]
  refine runActs_keeps (f := fun x : State => f x.rtu x.mlu) (fun act hact x => ?_) _
  rw [firstLineActs_eq] at hact
  obtain hact | hact := mem_interleaved.1 hact
  · have hidle := firstActivation_idle startedAt hq act hact x
    rw [hidle.rtu, hidle.mlu]
  · exact hothers act hact x

/-- What the other acts add to a counter of the RTU and the MLU, the internal frame adds. -/
theorem startInternalFrame_raises (f : RasterTiming → ManagementUnit → Nat) {n : Nat}
    (hothers : RaisesBy (fun x => f x.rtu x.mlu) others n) (hs : f s.rtu s.mlu ≤ 65535) :
    f (startInternalFrame startedAt others s).rtu (startInternalFrame startedAt others s).mlu =
      min 65535 (f s.rtu s.mlu + n) := by
  obtain ⟨hrtu, hmlu, -⟩ := firstLineActs_start startedAt others s
  have hidle : RaisesBy (fun x => f x.rtu x.mlu) (firstActivation startedAt s) 0 :=
    .of_keeps fun act hact x => by
      have hidle := firstActivation_idle startedAt hq act hact x
      rw [hidle.rtu, hidle.mlu]
  have hacts : RaisesBy (fun x => f x.rtu x.mlu) (firstLineActs startedAt others s).1 (0 + n) := by
    rw [firstLineActs_eq]
    exact hidle.interleaved hothers _
  rw [startInternalFrame_run]
  simp only [setTx_keeps]
  rw [hacts.run (by rw [hrtu, hmlu]; exact hs), hrtu, hmlu, Nat.zero_add]

/-- A notification offered beside the internal frame carries its number (R50, R58). -/
theorem startInternalFrame_queues {n : Notice} (hmem : offer n ∈ others)
    (hgrow : ∀ act ∈ others, ∀ x, Growing x (act x)) (hserve : ServeLine others) :
    QueuedNow n (startInternalFrame startedAt others s) ∧
    (startInternalFrame startedAt others s).nq.mask = (internalFrameStart startedAt s).nq.mask := by
  have hacts : ∀ act ∈ (firstLineActs startedAt others s).1, ∀ x, Growing x (act x) := by
    intro act hact x
    rw [firstLineActs_eq] at hact
    obtain hact | hact := mem_interleaved.1 hact
    · exact (firstActivation_idle startedAt hq act hact x).nq
    · exact hgrow act hact x
  have hmem' : offer n ∈ (firstLineActs startedAt others s).1 := by
    rw [firstLineActs_eq]
    exact mem_interleaved.2 (.inr hmem)
  obtain ⟨-, -, hnq⟩ := firstLineActs_start startedAt others s
  have hqueued := queuedNow_run hmem' hacts (lineEventActs_serveLine _ _ hserve)
    (firstLineActs startedAt others s).2
  rw [startInternalFrame_run, ← hnq]
  refine ⟨hqueued.growing (.of_eq (by simp)) rfl, ?_⟩
  simpa using (Growing.run hacts (firstLineActs startedAt others s).2).mask

end IdleFrame

/-! ### The frame end of the frame before -/

theorem latchActs_growing (s : State) (i : Nat) : ∀ act ∈ latchActs s i, ∀ x, Growing x (act x) := by
  have hlevel : ∀ j m x, Growing x (latchLevel j m x) := fun j m x => by
    simp only [latchLevel]
    split
    · exact .of_eq rfl
    · split_ifs
      · exact .behind (offerWith_growing ..) rfl
      · exact .of_eq rfl
  have hstill : ∀ j x, Growing x (reportStillness j x) := fun j x => by
    simp only [reportStillness]
    split_ifs
    · exact .behind (offerWith_growing ..) rfl
    · exact .behind (offerWith_growing ..) rfl
    · exact .of_eq rfl
  have hstillness : ∀ j q m x, Growing x (latchStillness j q m x) := fun j q m x => by
    simp only [latchStillness]
    split_ifs
    · exact .of_eq rfl
    · exact .behind (hstill j _) rfl
    · exact .behind (hstill j _) rfl
  have hreport : ∀ j m x, Growing x (latchReport j m x) := fun j m x => by
    simp only [latchReport]
    split_ifs
    · exact .of_eq rfl
    · exact .behind (offerWith_growing ..) rfl
    · exact .of_eq rfl
  unfold latchActs
  split_ifs
  · refine List.forall_mem_cons.2 ⟨fun x => .behind (hlevel i _ _) rfl,
      List.forall_mem_cons.2 ⟨hstillness i _ _, List.forall_mem_singleton.2 (hreport i _)⟩⟩
  · exact List.forall_mem_nil _

theorem dueFrameEndActs_growing (s : State) : ∀ act ∈ dueFrameEndActs s, ∀ x, Growing x (act x) := by
  unfold dueFrameEndActs
  split_ifs
  · refine List.forall_mem_cons.2 ⟨fun x => .of_eq rfl, ?_⟩
    unfold frameEndActs
    split_ifs
    · refine List.forall_mem_cons.2 ⟨fun x => .of_eq rfl, fun act hact => ?_⟩
      obtain ⟨i, -, hact⟩ := List.mem_flatMap.1 hact
      exact latchActs_growing s i act hact
    · exact List.forall_mem_singleton.2 fun x => .of_eq rfl
    · exact List.forall_mem_nil _
  · exact List.forall_mem_nil _

/-- An output frame start may queue what a latch reports, and no more. -/
theorem outputFrameStart_growing (inputTimed : Bool) (g : Geometry) (period startedAt : Nat)
    (s : State) : Growing s (outputFrameStart inputTimed g period startedAt s) := by
  simp only [outputFrameStart]
  split_ifs
  · exact (Growing.run (dueFrameEndActs_growing s) s).trans (.of_eq (by simp))
  · exact .of_eq (by simp)

theorem internalFrameStart_mask (startedAt : Nat) (s : State) :
    (internalFrameStart startedAt s).nq.mask = s.nq.mask := by
  unfold internalFrameStart
  split_ifs <;> exact (outputFrameStart_growing ..).mask

/-! ### A departure from LOCKED with no command waiting -/

section Departure
variable {new : LockState} {cause : LockCause} {errors : List (State → State)} {s : State}

/-- The acts beside the internal frame of a departure, one by one. -/
theorem mem_departureActs {act : State → State} :
    act ∈ (departureActs new cause errors s).1 ↔ (act ∈ errors ∨ act ∈ dropActs s.rtu.prev ∨
      act ∈ dropActs s.rtu.cur) ∨ act = countLockLoss ∨ act = offerLock .locked new cause := by
  simp [departureActs, mem_interleaved, or_assoc]

variable (hq : s.ce.queue = [])
include hq

/-- The parameters stay stored. -/
theorem departLocked_params (herrors : ∀ act ∈ errors, ∀ x, (act x).rtu = x.rtu) :
    (departLocked new cause errors s).rtu.params = s.rtu.params := by
  have hparams : (departureActs new cause errors s).2.rtu.params = s.rtu.params := by
    simp [departureActs, departing]
  have hce : (departureActs new cause errors s).2.ce = s.ce := by simp [departureActs, departing]
  rw [departLocked_eq, ← hparams]
  refine startInternalFrame_keeps_idle (by rw [hce]; exact hq) (fun r _ => r.params) fun act hact x => ?_
  obtain (hact | hact | hact) | rfl | rfl := mem_departureActs.1 hact
  · rw [herrors act hact x]
  · simp [dropActs_each _ act hact x]
  · simp [dropActs_each _ act hact x]
  · rfl
  · simp

/-- The loss of lock is counted once (R190). -/
theorem departLocked_lockLosses (herrors : ∀ act ∈ errors, ∀ x, (act x).rtu = x.rtu)
    (hs : s.rtu.lockLosses ≤ 65535) : (departLocked new cause errors s).rtu.lockLosses =
      min 65535 (s.rtu.lockLosses + 1) := by
  have hlosses : (departureActs new cause errors s).2.rtu.lockLosses = s.rtu.lockLosses := by
    simp [departureActs, departing]
  have hce : (departureActs new cause errors s).2.ce = s.ce := by simp [departureActs, departing]
  rw [departLocked_eq, ← hlosses]
  refine startInternalFrame_raises (by rw [hce]; exact hq) (fun r _ => r.lockLosses) ?_
    (by rw [hlosses]; exact hs)
  have hquiet : RaisesBy (fun x => x.rtu.lockLosses)
      (errors ++ dropActs s.rtu.prev ++ dropActs s.rtu.cur) 0 := by
    refine .of_keeps fun act hact x => ?_
    rw [List.append_assoc, List.mem_append, List.mem_append] at hact
    obtain hact | hact | hact := hact
    · rw [herrors act hact x]
    · simp [dropActs_each _ act hact x]
    · simp [dropActs_each _ act hact x]
  have hcount : RaisesBy (fun x => x.rtu.lockLosses) [countLockLoss, offerLock .locked new cause]
      (1 + (0 + 0)) :=
    .cons (fun x => countUp_eq) (.cons (raises_zero fun x => by simp) .nil)
  exact Nat.zero_add 1 ▸ hquiet.interleaved hcount (departing new s)

end Departure

/-- What a departure leaves of the RTU and the output, with no command waiting (R46, R47, R53, R58). -/
structure Departed (new : LockState) (s t : State) : Prop where
  rtu : t.rtu = { s.rtu with
    lock := new, flywheel := none, acquire := none, watching := false
    frame := if new = .acquiring ∨ new = .locked then s.rtu.frame else none
    cur := s.rtu.cur.map InputLine.stripped, prev := s.rtu.prev.map InputLine.stripped
    awaitSwitch := false, lockLosses := min 65535 (s.rtu.lockLosses + 1) }
  frame : InternalFrameStarted s.now (departing new s) t

theorem departLocked_departed {new : LockState} (hnew : new ≠ .locked) (cause : LockCause)
    {errors : List (State → State)} {s : State} (herrors : ∀ act ∈ errors, ∀ x, (act x).rtu = x.rtu)
    (hserve : ServeLine errors) (hq : s.ce.queue = []) (hlosses : s.rtu.lockLosses ≤ 65535) :
    Departed new s (departLocked new cause errors s) := by
  have hstarted := departLocked_started hnew cause s hserve
  refine ⟨?_, hstarted⟩
  obtain ⟨hrtu, -⟩ := hstarted.rtu
  rw [hrtu, departLocked_params hq herrors, departLocked_lockLosses hq herrors hlosses]
  simp [departing]

/-- The expiry departs to FREE_RUN under a holdover limit of 0, and else to HOLDOVER with its count at 0. -/
theorem expireFlywheel_eq (due : Nat) (s : State) : expireFlywheel due s =
    if s.rtu.params.holdoverLimit = 0 then departLocked .freeRun .flywheel [] (s.advanceTo due)
    else departLocked .holdover .flywheel []
      ((s.advanceTo due).withRtu { s.rtu with holdoverCount := 0 }) := rfl

/-- Settles O22: the flywheel's expiry leaves LOCKED, and no command executes beside its frame. -/
theorem flywheelExpiryLeavesLocked : Obligations.FlywheelExpiryLeavesLocked := by
  unfold Obligations.FlywheelExpiryLeavesLocked
  intro s due g d hreset hlock hdue hg hd hq hlosses
  have hexec : exec .flywheelExpiry s = .next (expireFlywheel due s) := by
    simp only [exec, execFlywheelExpiry, hlock, hdue]
    exact whileRunning_high hreset
  refine ⟨_, hexec, ?_⟩
  rw [expireFlywheel_eq]
  by_cases hlimit : s.rtu.params.holdoverLimit = 0
  · obtain ⟨hrtu, hframe⟩ := departLocked_departed (s := s.advanceTo due) (new := .freeRun) (by decide)
      .flywheel (errors := []) (by simp) (List.forall_mem_nil _) hq hlosses
    have hfree : (departing .freeRun (s.advanceTo due)).rtu.lock = .freeRun := by simp [departing]
    have hparams : (departing .freeRun (s.advanceTo due)).rtu.params = s.rtu.params := by
      simp [departing]
    have hlayout := internalLayout_freeRun (.inl hfree)
    rw [hparams] at hlayout
    rw [if_pos hlimit, if_pos hlimit, hframe.out, hlayout, hframe.now, hrtu]
    simp [departing, hg, hd]
  · generalize hx : (s.advanceTo due).withRtu { s.rtu with holdoverCount := 0 } = x
    have hxrtu : x.rtu = { s.rtu with holdoverCount := 0 } := by rw [← hx]; rfl
    have hxout : x.out = s.out := by rw [← hx]; rfl
    have hxnow : x.now = max s.now due := by rw [← hx]; rfl
    obtain ⟨hrtu, hframe⟩ := departLocked_departed (s := x) (new := .holdover) (by decide)
      .flywheel (errors := []) (by simp) (List.forall_mem_nil _) (by rw [← hx]; exact hq)
      (by rw [hxrtu]; exact hlosses)
    have hlayout : internalLayout (departing .holdover x) = (holdoverGeometry g, d) := by
      simp only [internalLayout, departing, State.withRtu_rtu, changeLock_rtu]
      exact holdoverLayout_of_some (by rw [hxrtu]; exact hg) (by rw [hxrtu]; exact hd)
    rw [if_neg hlimit, if_neg hlimit, hframe.out, hlayout, hframe.now, hrtu]
    simp [departing, hxrtu, hxout, hxnow, hg, hd, holdoverGeometry]

/-! ### The end of HOLDOVER -/

/-- The internal frame start that reaches the limit (R48). -/
theorem nextInternalFrame_atLimit {s : State} (h : atHoldoverLimit s = true) :
    nextInternalFrame s = startInternalFrame
      (if s.out.running then s.out.startedAt + s.out.period * 1000 else s.now)
      [offerLock .holdover .freeRun .holdoverLimit]
      (changeLock .freeRun ((s.advanceTo
        (if s.out.running then s.out.startedAt + s.out.period * 1000 else s.now)).withRtu
          { s.rtu with holdoverCount := stopAt 255 s.rtu.holdoverCount })) := by
  simp only [atHoldoverLimit, Bool.and_eq_true, decide_eq_true_eq] at h
  obtain ⟨⟨⟨hlock, -⟩, -⟩, hlimit⟩ := h
  exact (if_pos hlock).trans (if_pos hlimit)

/-- HOLDOVER_LIMIT and INTERNAL_LINE_START name the same occurrence at the limit (log 6). -/
theorem paceInternal_atLimit {s : State} (h : atHoldoverLimit s = true) :
    paceInternal s = nextInternalFrame s := by
  simp only [atHoldoverLimit, Bool.and_eq_true, Bool.not_eq_true'] at h
  obtain ⟨⟨⟨-, htimed⟩, hboundary⟩, -⟩ := h
  rw [paceInternal, htimed, if_neg Bool.false_ne_true, if_pos hboundary]

/-- Settles O23: the frame at the limit starts in FREE_RUN with its LOCK notification alone beside it. -/
theorem holdoverLimitEndsHoldover : Obligations.HoldoverLimitEndsHoldover := by
  unfold Obligations.HoldoverLimitEndsHoldover
  intro s hreset hlock htimed hboundary hlimit hcount hq
  have hstop : stopAt 255 s.rtu.holdoverCount = s.rtu.holdoverCount + 1 := if_pos (by omega)
  have hat : atHoldoverLimit s = true := by
    simpa [atHoldoverLimit, hlock, htimed, atFrameBoundary, hstop, hlimit] using hboundary
  have hnext := nextInternalFrame_atLimit hat
  generalize (if s.out.running then s.out.startedAt + s.out.period * 1000 else s.now) = begins at hnext
  rw [hstop] at hnext
  generalize hx : changeLock .freeRun ((s.advanceTo begins).withRtu
    { s.rtu with holdoverCount := s.rtu.holdoverCount + 1 }) = x at hnext
  have hxrtu : x.rtu = { s.rtu with
      lock := .freeRun, flywheel := none, acquire := none, watching := false
      frame := none, holdoverCount := s.rtu.holdoverCount + 1 } := by
    rw [← hx]; simp
  have hxq : x.ce.queue = [] := by rw [← hx]; simpa using hq
  have hxout : x.out = s.out := by rw [← hx]; simp
  have hxmask : x.nq.mask = s.nq.mask := by rw [← hx]; simp
  have hserve : ServeLine [offerLock .holdover .freeRun .holdoverLimit] :=
    List.forall_mem_singleton.2 (offerLock_lineServed _ _ _)
  have hframe := startInternalFrame_started begins x hserve
  have hlayout : internalLayout x = (s.rtu.params.geometry, s.rtu.params.period) := by
    rw [internalLayout_freeRun (.inl (by rw [hxrtu])), hxrtu]
  have hrtu := startInternalFrame_keeps_idle (startedAt := begins) hxq (fun r _ => r)
    (others := [offerLock .holdover .freeRun .holdoverLimit]) (by simp)
  obtain ⟨hqueued, hmask⟩ := startInternalFrame_queues (startedAt := begins) hxq
    (n := .lock .holdover .freeRun .holdoverLimit) (List.mem_singleton.2 rfl)
    (List.forall_mem_singleton.2 fun y => offerWith_growing ..) hserve
  rw [internalFrameStart_mask, hxmask] at hmask
  refine ⟨nextInternalFrame s, ?_, ?_, ?_⟩
  · simp only [exec, execHoldoverLimit, if_pos hat]
    exact whileRunning_high hreset
  · simp only [exec, execInternalLineStart]
    rw [whileRunning_high hreset, paceInternal_atLimit hat]
  · rw [QueuedNow, hmask] at hqueued
    rw [hnext, hrtu, hxrtu]
    refine ⟨rfl, rfl, rfl, rfl, ?_, ?_, ?_, ?_, ?_, ?_, hqueued⟩ <;>
    rw [hframe.out, hlayout]
    rw [hxout]

end Sys2Proof.Machine
end

section
/-! Output lines in input timing: the output line that an input line start begins two lines back (R51, R52,
R62, R63, R65, R67, R75, R87, R151). -/

namespace Sys2Proof.Machine

/-! ### The start of an input line -/

/-- The state that a line start word finds: the clock moved and the line before it measured (R39, R40). -/
def lineEnded (clock : Nat) (s : State) : State :=
  (s.advanceTo clock).withRtu { s.rtu with frame := s.endedFrame }

theorem endLine_advanceTo (clock : Nat) (s : State) : endLine (s.advanceTo clock) = lineEnded clock s := by
  have hended (o : Option InputLine) (h : s.rtu.cur = o) : s.endedFrame = s.rtu.frame.map fun f =>
      (o.map f.close).getD f := by
    subst h
    unfold State.endedFrame
    cases s.rtu.cur <;> rfl
  unfold endLine
  split <;> rename_i hcur <;> rw [lineEnded, hended _ hcur]
  · rfl
  · simp only [Option.map_none, Option.getD_none, Option.map_id']
    rfl

/-- The new line takes its place in the delay, and its parse begins (R51, R140). -/
def beginLine (l : InputLine) (s : State) : State :=
  beginParse l.kind (s.withRtu { s.rtu with prev := s.rtu.cur, cur := some l })

@[simp] theorem beginLine_keeps (l : InputLine) (s : State) :
    (beginLine l s).now = s.now ∧ (beginLine l s).ct = s.ct ∧ (beginLine l s).out = s.out ∧
    (beginLine l s).comp = s.comp ∧ (beginLine l s).sf = s.sf ∧ (beginLine l s).os = s.os ∧
    (beginLine l s).mon = s.mon ∧ (beginLine l s).ce = s.ce ∧ (beginLine l s).nq = s.nq := by
  simp [beginLine]

@[simp] theorem beginLine_rtu (l : InputLine) (s : State) :
    (beginLine l s).rtu = { s.rtu with prev := s.rtu.cur, cur := some l } := by
  simp [beginLine]

/-- A line that begins no frame (R38, R51). -/
theorem takeLineStart_within {bits : BitVec 31} (clock : Nat) (s : State)
    (h : bits.getLsbD 4 = false) : takeLineStart bits clock s =
      beginLine (lineOf bits) (followInput s.rtu.prev s.rtu.cur
        ((s.endedFrame.map InputFrame.lines).getD 0) (endParseActs s) (lineEnded clock s)) := by
  have hline : (lineOf bits).frameStart = false := h
  simp only [takeLineStart, endLine_advanceTo, hline, Bool.false_and, Bool.false_eq_true, if_false,
    lineEnded, State.withRtu_rtu]
  cases s.endedFrame <;> rfl

/-- A line that begins a frame, behind the lock-state rules of its frame start (R38, R43 to R49). -/
theorem takeLineStart_frame {bits : BitVec 31} (clock : Nat) (s : State) {u : State}
    (h : bits.getLsbD 4 = true)
    (hu : takeFrameStart s.endedFrame (endParseActs s) (lineEnded clock s) = u) :
    takeLineStart bits clock s =
      beginLine (lineOf bits) (followInput u.rtu.prev u.rtu.cur 0
        (if leavesLocked s.endedFrame (lineEnded clock s) then [] else endParseActs s)
        (u.withRtu { u.rtu with frame := some (.start u.now) })) := by
  have hline : (lineOf bits).frameStart = true := h
  have hframe : (lineEnded clock s).rtu.frame = s.endedFrame := rfl
  simp only [takeLineStart, endLine_advanceTo, hline, Bool.true_and, if_true, hframe, hu]
  rfl

/-! ### The words of a line -/

/-- Three octets make a pixel word (R138). -/
theorem areaPixels_length {l : List Byte} {n : Nat} (h : l.length = 3 * n) :
    (areaPixels l).length = n := by
  induction n generalizing l with
  | zero => rw [List.eq_nil_of_length_eq_zero h]; rfl
  | succ n ih =>
    match l, h with
    | a :: b :: c :: rest, h =>
      simp only [List.length_cons] at h
      rw [areaPixels, List.length_cons, ih (by omega)]

/-- What an insertion takes from the room it adds to the octets inserted (R152). -/
theorem insertNext_room (x : State × Assembly) :
    (insertNext x).2.room + (insertNext x).2.inserted.length = x.2.room + x.2.inserted.length := by
  obtain ⟨s, a⟩ := x
  simp only [insertNext]
  split
  · split_ifs with hfits
    · obtain ⟨-, hroom⟩ := hfits
      simp only [List.length_append]
      omega
    · rfl
  · rfl

/-- An assembly inserts no more than its room, whatever happens beside it (R152). -/
theorem assembly_inserted_le (events : List (State → State)) (most room : Nat) (s t : State) :
    (runActs (interleaved (events.map fun act => Prod.map act id) (assemblyActs most) s).1
      (t, Assembly.start room)).2.inserted.length ≤ room := by
  have hkept := runActs_keeps (f := fun x : State × Assembly => x.2.room + x.2.inserted.length)
    (acts := (interleaved (events.map fun act => Prod.map act id) (assemblyActs most) s).1)
    (fun act hact x => ?_) (t, Assembly.start room)
  · simp only [Assembly.start, List.length_nil] at hkept ⊢
    omega
  · obtain hact | hact := mem_interleaved.1 hact
    · obtain ⟨e, -, rfl⟩ := List.mem_map.1 hact
      rfl
    · obtain rfl | hact := List.mem_cons.1 hact
      · rfl
      · rw [List.eq_of_mem_replicate hact]
        exact insertNext_room x

/-- An assembly fills its line, if the packets passed on leave room (R151). -/
theorem assembleAmong_length {events : List (State → State)} {words : Nat} {forward : List Packet}
    (s : State) (h : forward.flatten.length ≤ 3 * words) :
    (assembleAmong events words forward s).2.length = 3 * words := by
  have hinserted := assembly_inserted_le events
    (s.ce.responses.length + s.nq.entries.length + events.length)
    (3 * words - forward.flatten.length) s (interleaved (events.map fun act => Prod.map act id)
      (assemblyActs (s.ce.responses.length + s.nq.entries.length + events.length)) s).2
  simp only [assembleAmong, List.length_append, List.length_replicate]
  omega

/-- A line is carried alike in states with the same port and the same composition. -/
theorem CarriesLine.congr {a : InputLine} {first : Bool} {y : Nat} {s t : State}
    (h : CarriesLine a first y s) (hout : t.out = s.out) (hct : t.ct = s.ct) (hcomp : t.comp = s.comp)
    (hsf : t.sf = s.sf) : CarriesLine a first y t := by
  have hcompose : composePixel t = composePixel s := by
    funext x y c
    exact composePixel_congr (by rw [hct]) (by rw [hout]) (by rw [hcomp]) (by rw [hsf]) x y c
  simpa only [CarriesLine, hout, hcompose] using h

/-- A line sent with the words that its kind asks for is carried (R62, R63). -/
theorem sendPixels_carries {a : InputLine} {y : Nat} {pixels : List Pixel} (first : Bool) (s : State)
    (hlength : pixels.length = a.words.length) (hblank : a.kind = .blank → pixels = a.words)
    (hactive : a.kind = .active → pixels = composeLine s y a.words) :
    CarriesLine a first y (sendPixels a.kind first pixels s) := by
  refine CarriesLine.congr (s := setTx (startWord a.kind first :: pixels.map pixelWord) s)
    ⟨pixels.map pixelWord, rfl, by rw [List.length_map, hlength], fun h => by rw [hblank h], fun h => ?_⟩
    rfl rfl rfl rfl
  have hcompose (i : Nat) (c : Colour) : composePixel s i y c = composePixel
      (setTx (startWord a.kind first :: pixels.map pixelWord) s) i y c :=
    composePixel_congr rfl rfl rfl rfl i y c
  simp only [← hcompose]
  rw [hactive h, composeLine]
  exact List.ext_getElem (by simp) (by simp)

/-- The output line start puts the line on the port (R62, R63, R67, R151). -/
theorem outputLineStart_carries (a : InputLine) (first activation : Bool)
    {errors : List (State → State)} (s : State) (herrors : ∀ x, (runActs errors x).out = x.out)
    (hpassed : a.kind = .mgmt → a.forward.flatten.length ≤ 3 * a.words.length) :
    CarriesLine a first s.out.activeCount
      (outputLineStart a.kind first a.words a.forward activation errors s) := by
  have hsent := @sendPixels_carries a s.out.activeCount
  cases hkind : a.kind <;> rw [hkind] at hsent hpassed
  case blank => exact hsent first _ rfl (fun _ => rfl) nofun
  case mgmt =>
    have hlength := assembleAmong_length (events := (lineEventActs activation errors s).1)
      (lineEventActs activation errors s).2 (hpassed rfl)
    exact hsent first _ (areaPixels_length hlength) nofun nofun
  case active =>
    simp only [outputLineStart, activeLine_eq, herrors]
    exact hsent first _ (by simp [composeLine]) nofun fun _ => rfl

/-! ### Carrying an input line -/

/-- The output raster at the start of a line in input timing (R51, R52, R55). -/
def lineBegun (first : Bool) (s : State) : State :=
  if first then
    outputFrameStart true (s.rtu.locked.getD s.out.geometry) (s.rtu.measured.getD s.out.period) s.now s
  else s.withOut { s.out with line := s.out.line + 1 }

theorem carryLine_eq (first : Bool) (a : InputLine) (b : Option InputLine)
    (errors : List (State → State)) (s : State) : ∃ activation, carryLine first a b errors s =
      outputLineStart a.kind first a.words a.forward activation errors (lineBegun first s) := ⟨_, rfl⟩

theorem lineBegun_rtu (first : Bool) (s : State) : (lineBegun first s).rtu = s.rtu := by
  unfold lineBegun; split_ifs <;> simp

theorem lineBegun_now (first : Bool) (s : State) : (lineBegun first s).now = s.now := by
  unfold lineBegun; split_ifs <;> simp

theorem carryLine_started (first : Bool) (a : InputLine) (b : Option InputLine)
    {errors : List (State → State)} (s : State) (h : ServeLine errors) :
    LineStarted a.kind (lineBegun first s) (carryLine first a b errors s) := by
  obtain ⟨activation, heq⟩ := carryLine_eq first a b errors s
  rw [heq]
  exact outputLineStart_started _ _ _ _ _ _ h

/-- The new line in the delay changes neither port nor composition. -/
theorem CarriesLine.beginLine {a : InputLine} {first : Bool} {y : Nat} {s : State}
    (h : CarriesLine a first y s) (l : InputLine) : CarriesLine a first y (beginLine l s) :=
  h.congr (by simp) (by simp) (by simp) (by simp)

/-- The line carried stands on the port once the new line is in the delay (R51). -/
theorem carryLine_carries (first : Bool) {a l : InputLine} (b : Option InputLine) (s t : State)
    (hpassed : a.kind = .mgmt → a.forward.flatten.length ≤ 3 * a.words.length) :
    CarriesLine a first (lineBegun first t).out.activeCount
      (beginLine l (carryLine first a b (endParseActs s) t)) := by
  obtain ⟨activation, heq⟩ := carryLine_eq first a b (endParseActs s) t
  rw [heq]
  exact (outputLineStart_carries a first activation _ (by simp) hpassed).beginLine l

/-- An ACTIVE line is settled by what its state has fetched and by its bank (R65, R75, R87). -/
theorem activeLine_settled (first : Bool) (starts : List Pixel) (s : State) :
    LineSettled s.out.activeCount s (activeLine first starts s) :=
  composingState_settled starts s

/-- The line is settled alike from a state with the same composition and for a state with the same. -/
theorem LineSettled.congr {y : Nat} {s s' t t' : State} (h : LineSettled y s t)
    (hct : s.ct = s'.ct) (hcomp : s.comp = s'.comp) (hsf : s.sf = s'.sf)
    (hgeometry : s.out.geometry = s'.out.geometry) (hct' : t'.ct = t.ct) (hcomp' : t'.comp = t.comp)
    (hsf' : t'.sf = t.sf) : LineSettled y s' t' := by
  simp only [LineSettled, hct, hcomp, hsf, hgeometry, hct', hcomp', hsf'] at h ⊢
  exact h

theorem carryLine_settled {a : InputLine} (b : Option InputLine) (s t : State) (ha : a.kind = .active) :
    LineSettled t.out.activeCount t (carryLine false a b (endParseActs s) t) := by
  obtain ⟨activation, heq⟩ := carryLine_eq false a b (endParseActs s) t
  rw [heq, ha]
  have hsettled := activeLine_settled false a.words (runActs (endParseActs s) (lineBegun false t))
  have hout : (runActs (endParseActs s) (lineBegun false t)).out.activeCount = t.out.activeCount := by
    simp [lineBegun]
  rw [hout] at hsettled
  exact hsettled.congr (by simp [lineBegun]) (by simp [lineBegun]) (by simp [lineBegun])
    (by simp [lineBegun]) rfl rfl rfl

/-! ### The line two back -/

section Follow
variable {a : InputLine} {b : Option InputLine} {index : Nat} {errors : List (State → State)} {s : State}
  (hlock : s.rtu.lock = .locked)
include hlock

theorem followInput_timed (h : s.out.inputTimed = true) :
    followInput (some a) b index errors s = carryLine a.frameStart a b errors s := by
  simp only [followInput, hlock, h, if_true]

theorem followInput_switch (h : s.out.inputTimed = false) (hawait : s.rtu.awaitSwitch = true) :
    followInput (some a) b 2 errors s =
      carryLine true a b errors (s.withRtu { s.rtu with awaitSwitch := false }) := by
  simp [followInput, hlock, h, hawait]

theorem followInput_waiting (h : s.out.inputTimed = false)
    (hwait : ¬ (s.rtu.awaitSwitch = true ∧ index = 2)) :
    followInput (some a) b index errors s = runActs errors s := by
  simp only [followInput, hlock, h, Bool.false_eq_true, if_false, if_neg hwait]

end Follow

/-- The line just ended is counted into its frame, up to 4401 lines (R39). -/
theorem InputFrame.close_lines (f : InputFrame) (l : InputLine) : (f.close l).lines =
    if Config.frameLines ≤ f.lines then f.lines else f.lines + 1 := by
  unfold InputFrame.close
  split_ifs <;> rfl

/-- In input timing the line start begins the output line two back (R51). -/
theorem takeLineStart_timed {s : State} {bits : BitVec 31} (clock : Nat) {a : InputLine}
    (hlock : s.rtu.lock = .locked) (htimed : s.out.inputTimed = true) (hbits : bits.getLsbD 4 = false)
    (ha : s.rtu.prev = some a) : takeLineStart bits clock s = beginLine (lineOf bits)
      (carryLine a.frameStart a s.rtu.cur (endParseActs s) (lineEnded clock s)) := by
  rw [takeLineStart_within clock s hbits, ha,
    followInput_timed (s := lineEnded clock s) (by exact hlock) (by exact htimed)]

/-- In a frame in input timing the line two back is carried (R51). -/
theorem carriesLine_timed {s t : State} {clock y : Nat} {a l : InputLine} (hlock : s.rtu.lock = .locked)
    (htimed : s.out.inputTimed = true)
    (hpassed : a.kind = .mgmt → a.forward.flatten.length ≤ 3 * a.words.length)
    (hy : y = (if a.frameStart then 0 else s.out.activeCount))
    (ht : t = beginLine l (carryLine a.frameStart a s.rtu.cur (endParseActs s) (lineEnded clock s))) :
    CarriesLine a a.frameStart y t ∧ t.out.inputTimed = true ∧
    t.out.line = (if a.frameStart then 0 else s.out.line + 1) ∧
    t.out.activeCount = (if a.kind = .active then y + 1 else y) ∧
    t.rtu.prev = s.rtu.cur ∧ t.rtu.lock = .locked := by
  have hline := carryLine_carries a.frameStart (l := l) s.rtu.cur s (lineEnded clock s) hpassed
  obtain ⟨⟨hrtu, -⟩, hout, -⟩ := carryLine_started a.frameStart a s.rtu.cur (lineEnded clock s)
    (endParseActs_serveLine s)
  have hbegun : (lineBegun a.frameStart (lineEnded clock s)).out.activeCount = y ∧
      (lineBegun a.frameStart (lineEnded clock s)).out.inputTimed = true ∧
      (lineBegun a.frameStart (lineEnded clock s)).out.line =
        (if a.frameStart then 0 else s.out.line + 1) := by
    subst hy
    cases a.frameStart
    · exact ⟨rfl, htimed, rfl⟩
    · simp [lineBegun, outputFrameStart_out]
  obtain ⟨hactive, hinput, hplace⟩ := hbegun
  have hto : t.out = _ := (by simp [ht] : t.out = _).trans hout
  have htr : t.rtu = _ := (congrArg State.rtu ht).trans (beginLine_rtu ..)
  rw [hactive] at hline hto
  rw [hto, htr, hrtu, lineBegun_rtu]
  exact ⟨ht ▸ hline, hinput, hplace, rfl, rfl, hlock⟩

/-- The switch: input line 2 of the frame that began at the entry to LOCKED carries line 0 (R52). -/
theorem carriesLine_switch {s t : State} {clock d : Nat} {g : Geometry} {a l : InputLine}
    {b : Option InputLine}
    (hpassed : a.kind = .mgmt → a.forward.flatten.length ≤ 3 * a.words.length)
    (hg : s.rtu.locked = some g) (hd : s.rtu.measured = some d)
    (ht : t = beginLine l (carryLine true a b (endParseActs s)
      ((lineEnded clock s).withRtu { (lineEnded clock s).rtu with awaitSwitch := false }))) :
    CarriesLine a true 0 t ∧ t.rtu.awaitSwitch = false ∧ t.out.inputTimed = true ∧
    t.out.running = true ∧ t.out.line = 0 ∧ t.out.startedAt = t.now ∧
    t.out.counter = s.out.counter + 1 ∧ t.out.geometry = g ∧ t.out.period = d := by
  generalize hx : (lineEnded clock s).withRtu { (lineEnded clock s).rtu with awaitSwitch := false } = x
    at ht
  have hline := carryLine_carries true (l := l) b s x hpassed
  obtain ⟨⟨hrtu, -⟩, hout, -, -, hnow⟩ := carryLine_started true a b x (endParseActs_serveLine s)
  have hbegun : (lineBegun true x).out = _ := outputFrameStart_out ..
  rw [hbegun] at hline hout
  have hto : t.out = _ := (by simp [ht] : t.out = _).trans hout
  have htr : t.rtu = _ := (congrArg State.rtu ht).trans (beginLine_rtu ..)
  have htn : t.now = _ := (by simp [ht] : t.now = _).trans hnow
  rw [hto, htr, htn, hrtu, lineBegun_rtu, lineBegun_now]
  subst hx
  exact ⟨ht ▸ hline, rfl, rfl, rfl, rfl, rfl, rfl, by simp [lineEnded, hg], by simp [lineEnded, hd]⟩

/-- Settles O19: in input timing the line two back is carried; before the switch only the start of input
line 2 carries one. -/
theorem outputLineIsTwoLinesBack : Obligations.OutputLineIsTwoLinesBack := by
  unfold Obligations.OutputLineIsTwoLinesBack
  constructor
  · intro s bits clock y a hreset hlock htimed hbits ha hpassed hy
    have hexec : exec (.inputLineStart bits clock) s = .next (takeLineStart bits clock s) :=
      whileRunning_high hreset
    rw [takeLineStart_timed clock hlock htimed hbits ha] at hexec
    obtain ⟨hline, hinput, hplace, hactive, hprev, hstill⟩ :=
      carriesLine_timed hlock htimed hpassed hy rfl
    refine ⟨_, hexec, hline, hinput, hplace, hactive, hprev, hstill, fun hkind hfirst => ?_⟩
    rw [hfirst] at hy ⊢
    rw [hy]
    exact (carryLine_settled s.rtu.cur s (lineEnded clock s) hkind).congr rfl rfl rfl rfl (by simp)
      (by simp) (by simp)
  · intro s bits clock f a b hreset hlock htimed hbits ha hb hf
    have hexec : exec (.inputLineStart bits clock) s = .next (takeLineStart bits clock s) :=
      whileRunning_high hreset
    have hended : s.endedFrame = some (f.close b) := by simp [State.endedFrame, hf, hb]
    have hlines : (f.close b).lines = 2 ↔ f.lines = 1 := by
      rw [InputFrame.close_lines, Config.frameLines]
      split_ifs <;> omega
    rw [takeLineStart_within clock s hbits, ha, hended] at hexec
    by_cases hswitch : s.rtu.awaitSwitch = true ∧ f.lines = 1
    · obtain ⟨hawait, hone⟩ := hswitch
      simp only [Option.map_some, Option.getD_some, hlines.2 hone] at hexec
      rw [followInput_switch (s := lineEnded clock s) (by exact hlock) (by exact htimed)
        (by exact hawait)] at hexec
      refine ⟨_, hexec, ?_, fun hmore => absurd hone hmore, fun g d _ _ hg hd hpassed => ?_⟩
      · obtain ⟨⟨hrtu, -⟩, -⟩ := carryLine_started true a s.rtu.cur
          ((lineEnded clock s).withRtu { (lineEnded clock s).rtu with awaitSwitch := false })
          (endParseActs_serveLine s)
        rw [beginLine_rtu, hrtu, lineBegun_rtu]
        exact hlock
      · exact carriesLine_switch hpassed hg hd rfl
    · rw [followInput_waiting (s := lineEnded clock s) (by exact hlock) (by exact htimed)
        (by rwa [Option.map_some, Option.getD_some, hlines])] at hexec
      refine ⟨_, hexec, by simpa [lineEnded] using hlock, fun _ => by simp [lineEnded], ?_⟩
      exact fun g d hone hawait => absurd ⟨hawait, hone⟩ hswitch

end Sys2Proof.Machine
end

section
/-! An input frame start in each lock state (R38 to R50, R53, R150). -/

namespace Sys2Proof.Machine

/-! ### The lock-state rules, case by case -/

section Rules
variable {f : InputFrame} {ended : Option InputFrame} {errors : List (State → State)} {s : State}

theorem takeFrameStart_freeRun (h : s.rtu.lock = .freeRun) : takeFrameStart ended errors s =
    offerLock .freeRun .acquiring .inputFrame (becomeCandidate none (changeLock .acquiring s)) := by
  simp only [takeFrameStart, h]

theorem takeFrameStart_acquiring_match (h : s.rtu.lock = .acquiring)
    (hf : f.matchesGeometry s.rtu.candidate = true) :
    takeFrameStart (some f) errors s = enterLocked f s := by
  simp only [takeFrameStart, h, hf, if_true]

theorem takeFrameStart_acquiring_other (h : s.rtu.lock = .acquiring)
    (hf : f.matchesGeometry s.rtu.candidate = false) :
    takeFrameStart (some f) errors s = becomeCandidate (some f) s := by
  simp only [takeFrameStart, h, hf, Bool.false_eq_true, if_false]

theorem takeFrameStart_locked_match (h : s.rtu.lock = .locked)
    (hf : f.matchesGeometry s.rtu.locked = true) :
    takeFrameStart (some f) errors s = startFlywheel (f.duration s.now) s := by
  simp only [takeFrameStart, h, hf, if_true]

theorem takeFrameStart_locked_other (h : s.rtu.lock = .locked)
    (hf : f.matchesGeometry s.rtu.locked = false) : takeFrameStart (some f) errors s =
      becomeCandidate (some f) (departLocked .acquiring .mismatch errors s) := by
  simp only [takeFrameStart, h, hf, Bool.false_eq_true, if_false]

theorem takeFrameStart_unwatched (h : s.rtu.lock = .holdover) (hwatching : s.rtu.watching = false) :
    takeFrameStart ended errors s = s.withRtu { s.rtu with watching := true } := by
  simp only [takeFrameStart, h, hwatching, Bool.false_eq_true, if_false]

theorem takeFrameStart_watching_match (h : s.rtu.lock = .holdover) (hwatching : s.rtu.watching = true)
    (hf : f.matchesGeometry s.rtu.locked = true) :
    takeFrameStart (some f) errors s = enterLocked f s := by
  simp only [takeFrameStart, h, hwatching, hf, if_true]

theorem takeFrameStart_watching_other (h : s.rtu.lock = .holdover) (hwatching : s.rtu.watching = true)
    (hf : f.matchesGeometry s.rtu.locked = false) : takeFrameStart (some f) errors s =
      offerLock .holdover .acquiring .mismatch (becomeCandidate (some f) (changeLock .acquiring s)) := by
  simp only [takeFrameStart, h, hwatching, hf, if_true, Bool.false_eq_true, if_false]

end Rules

/-- The frame matches a geometry as R41 says. -/
theorem InputFrame.matchesGeometry_iff (f : InputFrame) (g : Option Geometry) :
    f.matchesGeometry g = true ↔ f.Matches g := by
  simp only [InputFrame.matchesGeometry, InputFrame.regular, Bool.and_eq_true, decide_eq_true_eq]
  exact ⟨fun ⟨⟨⟨⟨hcontiguous, huniform⟩, hclean⟩, hrange⟩, hg⟩ =>
      ⟨hg, hcontiguous, huniform, hclean, hrange⟩,
    fun ⟨hg, hcontiguous, huniform, hclean, hrange⟩ =>
      ⟨⟨⟨⟨hcontiguous, huniform⟩, hclean⟩, hrange⟩, hg⟩⟩

theorem InputFrame.matchesGeometry_false {f : InputFrame} {g : Option Geometry} (h : ¬ f.Matches g) :
    f.matchesGeometry g = false := by
  rwa [← InputFrame.matchesGeometry_iff, Bool.not_eq_true] at h

/-- The duration is that of the frame in whole microseconds, if in range (R39; log 13). -/
theorem InputFrame.duration_eq {f : InputFrame} {now : Nat} (hfrom : 1 ≤ (now - f.startedAt) / 1000)
    (hto : (now - f.startedAt) / 1000 ≤ 4294967295) : f.duration now = (now - f.startedAt) / 1000 :=
  if_pos ⟨hfrom, hto⟩

/-- An offer sees the queue, the number of the frame and that of the line only. -/
theorem offer_nq_congr (n : Notice) {s t : State} (hnq : t.nq = s.nq) (hout : t.out = s.out)
    (hmlu : t.mlu = s.mlu) : (offer n t).nq = (offer n s).nq := by
  simp only [offer, offerWith, hnq, hout, hmlu]
  split_ifs <;> simp [hnq]

/-! ### Behind the lock-state rules -/

/-- What a line start leaves of the state `u` behind the lock-state rules, where no output line follows the
input line: a frame begins, the delay moves, and only the MLU counts and parses besides (R38, R39, R140). -/
structure FrameBegun (l : InputLine) (u t : State) : Prop where
  rtu : t.rtu = { u.rtu with frame := some (.start u.now), prev := u.rtu.cur, cur := some l }
  now : t.now = u.now
  nq : t.nq = u.nq
  mon : t.mon = u.mon
  runsOn : OutputRunsOn u t
  address : t.mlu.address = u.mlu.address
  sequence : t.mlu.sequence = u.mlu.sequence
  notForwarded : t.mlu.notForwarded = u.mlu.notForwarded

/-- A parse that begins leaves the rest of the MLU (R140). -/
@[simp] theorem beginLine_mlu (l : InputLine) (s : State) :
    (beginLine l s).mlu.address = s.mlu.address ∧ (beginLine l s).mlu.sequence = s.mlu.sequence ∧
    (beginLine l s).mlu.notForwarded = s.mlu.notForwarded := by
  unfold beginLine beginParse
  split_ifs <;> exact ⟨rfl, rfl, rfl⟩

/-- So does each framing error counted (R141). -/
theorem endParseActs_mlu (s : State) : ∀ act ∈ endParseActs s, ∀ t : State,
    (act t).mlu.address = t.mlu.address ∧ (act t).mlu.sequence = t.mlu.sequence ∧
    (act t).mlu.notForwarded = t.mlu.notForwarded := by
  unfold endParseActs
  split
  · split_ifs <;> simp [countFraming]
  · exact List.forall_mem_nil _

@[simp] theorem endParseActs_run_mlu (s t : State) :
    (runActs (endParseActs s) t).mlu.address = t.mlu.address ∧
    (runActs (endParseActs s) t).mlu.sequence = t.mlu.sequence ∧
    (runActs (endParseActs s) t).mlu.notForwarded = t.mlu.notForwarded :=
  runActs_induct (P := fun x : State => x.mlu.address = t.mlu.address ∧ x.mlu.sequence = t.mlu.sequence ∧
    x.mlu.notForwarded = t.mlu.notForwarded)
    (fun act hact x hx => by simpa [endParseActs_mlu s act hact x] using hx) ⟨rfl, rfl, rfl⟩

/-- The first line of an input frame has no output line two back, unless the output is in input timing
(R51, R52). -/
theorem followInput_first {a b : Option InputLine} {errors : List (State → State)} {s : State}
    (h : s.rtu.lock ≠ .locked ∨ s.out.inputTimed = false) :
    followInput a b 0 errors s = runActs errors s := by
  obtain hlock | htimed := h
  · exact followInput_unlocked a b 0 errors hlock
  · unfold followInput
    split
    · simp [htimed]
    · rfl

/-- What comes before may leave the output running too. -/
theorem OutputRunsOn.behind {s t u : State} (k : OutputRunsOn t u) (h : OutputRunsOn s t) :
    OutputRunsOn s u := by
  obtain ⟨hout, hct, hcomp, hsf, hos, hce⟩ := h
  obtain ⟨hout', hct', hcomp', hsf', hos', hce'⟩ := k
  exact ⟨hout'.trans hout, hct'.trans hct, hcomp'.trans hcomp, hsf'.trans hsf, hos'.trans hos,
    hce'.trans hce⟩

section FrameStart
variable {bits : BitVec 31} {clock : Nat} {s u : State}

/-- The first line of a frame out of input timing. -/
theorem takeLineStart_begun (hbits : bits.getLsbD 4 = true)
    (hu : takeFrameStart s.endedFrame (endParseActs s) (lineEnded clock s) = u)
    (hquiet : u.rtu.lock ≠ .locked ∨ u.out.inputTimed = false) :
    FrameBegun (lineOf bits) u (takeLineStart bits clock s) := by
  have hfollow := followInput_first (a := u.rtu.prev) (b := u.rtu.cur)
    (errors := if leavesLocked s.endedFrame (lineEnded clock s) then [] else endParseActs s)
    (s := u.withRtu { u.rtu with frame := some (.start u.now) }) hquiet
  rw [takeLineStart_frame clock s hbits hu, hfollow]
  split_ifs <;> constructor <;> simp [OutputRunsOn]

/-- A line start moves the clock to its reading, never back (log 4). -/
theorem takeLineStart_now (bits : BitVec 31) (clock : Nat) (s : State) :
    (takeLineStart bits clock s).now = max s.now clock := by
  simp only [takeLineStart, endLine_advanceTo]
  split_ifs <;> simp [lineEnded]

theorem exec_inputLineStart (hreset : s.resetLow = false) :
    exec (.inputLineStart bits clock) s = .next (takeLineStart bits clock s) :=
  whileRunning_high hreset

/-! ### Outside LOCKED -/

/-- The line that a start word begins, its fields by the low bits (R195). -/
theorem lineOf_frameStart (hbits : bits.getLsbD 4 = true) : lineOf bits =
    { kind := (match bits.toNat % 4 with
        | 1 => .active
        | 3 => .mgmt
        | _ => .blank)
      frameStart := true, words := [], overLong := false
      unclean := decide (bits.toNat % 4 = 0), forward := [] } := by
  have hcode : bits.toNat % 4 < 4 := Nat.mod_lt _ (by decide)
  rw [lineOf, hbits]
  generalize bits.toNat % 4 = code at hcode
  interval_cases code <;> rfl

/-- In FREE_RUN a frame start leads to ACQUIRING, with no candidate and the acquire timer running (R43,
R50). -/
theorem frameStart_freeRun (hlock : s.rtu.lock = .freeRun) (hbits : bits.getLsbD 4 = true) {t : State}
    (ht : t = takeLineStart bits clock s) :
    t.rtu = { s.rtu with
      lock := .acquiring, candidate := none, flywheel := none, acquire := some (t.now + 100000000)
      watching := false, frame := some (.start t.now), prev := s.rtu.cur, cur := some (lineOf bits) } ∧
    t.nq = (offer (.lock .freeRun .acquiring .inputFrame) s).nq ∧ OutputRunsOn s t ∧
    t.mlu.address = s.mlu.address ∧ t.mlu.sequence = s.mlu.sequence := by
  have hbegun := takeLineStart_begun (clock := clock) hbits
    (takeFrameStart_freeRun (s := lineEnded clock s) hlock)
    (.inl (by simp [becomeCandidate, startAcquire]))
  subst ht
  refine ⟨?_, ?_, hbegun.runsOn.behind (by simp [OutputRunsOn, lineEnded]), ?_, ?_⟩
  · rw [hbegun.rtu, hbegun.now]
    simp [becomeCandidate, startAcquire, lineEnded, Config.acquireNanos]
  · rw [hbegun.nq]
    exact offer_nq_congr _ (by simp [lineEnded]) (by simp [lineEnded]) (by simp [lineEnded])
  · rw [hbegun.address]
    simp [lineEnded]
  · rw [hbegun.sequence]
    simp [lineEnded]

/-- A frame that matches enters LOCKED, the output running on in its internal frame (R44, R49, R52). -/
theorem frameStart_enters {f : InputFrame} (hbits : bits.getLsbD 4 = true) (hlaw : TimingLaw s)
    (hlock : s.rtu.lock ≠ .locked)
    (hu : takeFrameStart s.endedFrame (endParseActs s) (lineEnded clock s) =
      enterLocked f (lineEnded clock s)) :
    EntersLocked f s (takeLineStart bits clock s) := by
  have htimed := hlaw.internal hlock
  have hbegun := takeLineStart_begun hbits hu (.inr (by simpa [lineEnded] using htimed))
  have hrtu : (enterLocked f (lineEnded clock s)).rtu = { s.rtu with
      lock := .locked, locked := some f.record, acquire := none, watching := false, awaitSwitch := true
      measured := some (f.duration (max s.now clock))
      flywheel := some (max s.now clock + (f.duration (max s.now clock) +
        f.duration (max s.now clock) / 8) * 1000)
      frame := s.endedFrame } := by
    simp [enterLocked, startFlywheel, lineEnded]
  have hnow : (enterLocked f (lineEnded clock s)).now = max s.now clock := by simp [lineEnded]
  have ht := hbegun.rtu
  rw [hrtu, hnow] at ht
  have htn := hbegun.now.trans hnow
  refine ⟨?_, ⟨f.duration (max s.now clock), ?_, ?_, ?_⟩, ?_, ?_⟩
  · rw [ht, htn]
    rfl
  · rw [ht]
  · rw [ht, htn]
  · obtain ⟨hfrom, hto⟩ := f.duration_range (max s.now clock)
    rw [htn]
    exact ⟨hfrom, hto, fun h h' => InputFrame.duration_eq h h'⟩
  · rw [hbegun.nq]
    exact offer_nq_congr _ (by simp [startFlywheel, lineEnded]) (by simp [startFlywheel, lineEnded])
      (by simp [startFlywheel, lineEnded])
  · exact hbegun.runsOn.behind (by simp [OutputRunsOn, lineEnded])

/-- In ACQUIRING a frame that does not match becomes the candidate (R44). -/
theorem frameStart_newCandidate {f : InputFrame} (hbits : bits.getLsbD 4 = true)
    (hlock : s.rtu.lock = .acquiring)
    (hu : takeFrameStart s.endedFrame (endParseActs s) (lineEnded clock s) =
      becomeCandidate (some f) (lineEnded clock s)) {t : State} (ht : t = takeLineStart bits clock s) :
    t.rtu = { s.rtu with
      candidate := some f.record, acquire := some (t.now + 100000000)
      frame := some (.start t.now), prev := s.rtu.cur, cur := t.rtu.cur } ∧
    t.nq = s.nq ∧ t.mon = s.mon ∧ OutputRunsOn s t := by
  have hbegun := takeLineStart_begun hbits hu
    (.inl (by simp [becomeCandidate, startAcquire, lineEnded, hlock]))
  subst ht
  refine ⟨?_, ?_, ?_, hbegun.runsOn.behind (by simp [OutputRunsOn, lineEnded])⟩
  · rw [hbegun.rtu, hbegun.now]
    rfl
  · rw [hbegun.nq]
    rfl
  · rw [hbegun.mon]
    rfl

/-- In HOLDOVER a frame that does not match leads to ACQUIRING, the output running on (R49). -/
theorem frameStart_leavesHoldover {f : InputFrame} (hbits : bits.getLsbD 4 = true)
    (hlaw : TimingLaw s) (hlock : s.rtu.lock = .holdover)
    (hu : takeFrameStart s.endedFrame (endParseActs s) (lineEnded clock s) =
      offerLock .holdover .acquiring .mismatch
        (becomeCandidate (some f) (changeLock .acquiring (lineEnded clock s)))) {t : State}
    (ht : t = takeLineStart bits clock s) :
    t.rtu = { s.rtu with
      lock := .acquiring, candidate := some f.record, acquire := some (t.now + 100000000)
      watching := false, frame := some (.start t.now), prev := s.rtu.cur, cur := t.rtu.cur } ∧
    t.nq = (offer (.lock .holdover .acquiring .mismatch) s).nq ∧ OutputRunsOn s t := by
  have hbegun := takeLineStart_begun hbits hu (.inl (by simp [becomeCandidate, startAcquire]))
  have hflywheel : s.rtu.flywheel = none := by
    obtain ⟨hfly, -⟩ := hlaw
    simpa [hlock] using hfly
  subst ht
  refine ⟨?_, ?_, hbegun.runsOn.behind (by simp [OutputRunsOn, lineEnded])⟩
  · rw [hbegun.rtu, hbegun.now]
    simp [becomeCandidate, startAcquire, lineEnded, Config.acquireNanos, hflywheel]
  · rw [hbegun.nq]
    exact offer_nq_congr _ (by simp [lineEnded]) (by simp [lineEnded]) (by simp [lineEnded])

/-- In HOLDOVER the first frame start is watched (R49). -/
theorem frameStart_watches (hbits : bits.getLsbD 4 = true) (hlock : s.rtu.lock = .holdover)
    (hwatching : s.rtu.watching = false) {t : State} (ht : t = takeLineStart bits clock s) :
    t.rtu = { s.rtu with
      watching := true, frame := some (.start t.now), prev := s.rtu.cur, cur := t.rtu.cur } ∧
    t.nq = s.nq ∧ t.mon = s.mon ∧ OutputRunsOn s t := by
  have hbegun := takeLineStart_begun (clock := clock) hbits
    (takeFrameStart_unwatched (s := lineEnded clock s) hlock hwatching)
    (.inl (by simp [lineEnded, hlock]))
  subst ht
  refine ⟨?_, ?_, ?_, hbegun.runsOn.behind (by simp [OutputRunsOn, lineEnded])⟩
  · rw [hbegun.rtu, hbegun.now]
    rfl
  · rw [hbegun.nq]
    rfl
  · rw [hbegun.mon]
    rfl

/-! ### In LOCKED -/

/-- The first line of a frame in LOCKED serves the RTU: an output line may start (R51). -/
theorem followInput_served {a b : Option InputLine} {errors : List (State → State)}
    (herrors : ServeLine errors) (x : State) :
    x.rtu.Served (followInput a b 0 errors x).rtu := by
  by_cases htimed : x.out.inputTimed = true
  · unfold followInput
    split
    · rename_i line hlock
      rw [if_pos htimed]
      exact (carryLine_started line.frameStart line b x herrors).rtu.behind (lineBegun_rtu ..)
    · exact (herrors.run x).rtu
  · rw [followInput_first (.inr (Bool.not_eq_true _ ▸ htimed))]
    exact (herrors.run x).rtu

/-- A frame that matches restarts the flywheel and keeps LOCKED (R46, R47). -/
theorem frameStart_keepsLocked {f : InputFrame} (hbits : bits.getLsbD 4 = true)
    (hu : takeFrameStart s.endedFrame (endParseActs s) (lineEnded clock s) =
      startFlywheel (f.duration (max s.now clock)) (lineEnded clock s)) {t : State}
    (ht : t = takeLineStart bits clock s) :
    FlywheelRuns f t ∧ t.rtu = { s.rtu with
      measured := t.rtu.measured, flywheel := t.rtu.flywheel
      frame := some (.start t.now), prev := s.rtu.cur, cur := t.rtu.cur
      params := t.rtu.params, lockLosses := t.rtu.lockLosses } := by
  have htn : t.now = max s.now clock := ht ▸ takeLineStart_now bits clock s
  rw [takeLineStart_frame clock s hbits hu] at ht
  generalize hx : (startFlywheel (f.duration (max s.now clock)) (lineEnded clock s)).withRtu
    { (startFlywheel (f.duration (max s.now clock)) (lineEnded clock s)).rtu with
      frame := some (.start (startFlywheel (f.duration (max s.now clock)) (lineEnded clock s)).now) } = x
    at ht
  have herrors : ServeLine (if leavesLocked s.endedFrame (lineEnded clock s) then []
      else endParseActs s) := by
    split_ifs
    · exact List.forall_mem_nil _
    · exact endParseActs_serveLine s
  obtain ⟨hrtu, -⟩ := followInput_served
    (a := (startFlywheel (f.duration (max s.now clock)) (lineEnded clock s)).rtu.prev)
    (b := (startFlywheel (f.duration (max s.now clock)) (lineEnded clock s)).rtu.cur) herrors x
  generalize followInput _ _ _ _ x = y at ht hrtu
  have hxrtu : x.rtu = { s.rtu with
      measured := some (f.duration (max s.now clock))
      flywheel := some (max s.now clock + (f.duration (max s.now clock) +
        f.duration (max s.now clock) / 8) * 1000)
      frame := some (.start (max s.now clock)) } := by rw [← hx]; rfl
  have htr : t.rtu = { y.rtu with prev := y.rtu.cur, cur := some (lineOf bits) } := by
    rw [ht, beginLine_rtu]
  rw [hrtu, hxrtu] at htr
  obtain ⟨hfrom, hto⟩ := f.duration_range (max s.now clock)
  refine ⟨⟨f.duration (max s.now clock), ?_, ?_, hfrom, hto, fun h h' => ?_⟩, ?_⟩
  · rw [htr]
  · rw [htr, htn]
  · rw [htn] at h h' ⊢
    exact InputFrame.duration_eq h h'
  · rw [htr, htn]

/-! ### A mismatch in LOCKED -/

/-- The internal frame of the departure (R46, R53). -/
theorem departure_started (clock : Nat) (s : State) :
    InternalFrameStarted (max s.now clock) (departing .acquiring (lineEnded clock s))
      (departLocked .acquiring .mismatch (endParseActs s) (lineEnded clock s)) :=
  departLocked_started (by decide) .mismatch (lineEnded clock s) (endParseActs_serveLine s)

/-- Its layout is the free-run one (R54). -/
theorem departure_layout (clock : Nat) (s : State) :
    internalLayout (departing .acquiring (lineEnded clock s)) =
      (s.rtu.params.geometry, s.rtu.params.period) := by
  have hlock : (departing .acquiring (lineEnded clock s)).rtu.lock = .acquiring := by
    simp [departing]
  have hparams : (departing .acquiring (lineEnded clock s)).rtu.params = s.rtu.params := by
    simp [departing, lineEnded]
  rw [internalLayout_freeRun (.inr hlock), hparams]

/-- Behind the departure the input frame that mismatched becomes the candidate (R46). -/
theorem departure_begun {f : InputFrame} (hbits : bits.getLsbD 4 = true)
    (hlock : s.rtu.lock = .locked) (hended : s.endedFrame = some f)
    (hf : f.matchesGeometry s.rtu.locked = false) :
    FrameBegun (lineOf bits) (becomeCandidate (some f)
        (departLocked .acquiring .mismatch (endParseActs s) (lineEnded clock s)))
      (takeLineStart bits clock s) := by
  have hstarted := departure_started clock s
  refine takeLineStart_begun hbits ?_ (.inr ?_)
  · rw [hended]
    exact takeFrameStart_locked_other hlock hf
  · have hout := hstarted.out
    simp only [becomeCandidate_keeps]
    rw [hout]

/-- A frame start that mismatches leaves LOCKED for ACQUIRING, and an internal frame with the free-run
parameters starts at once (R46, R53, R54). -/
theorem frameStart_leavesLocked {f : InputFrame} (hbits : bits.getLsbD 4 = true)
    (hlaw : TimingLaw s) (hlock : s.rtu.lock = .locked) (hended : s.endedFrame = some f)
    (hf : f.matchesGeometry s.rtu.locked = false) {t : State} (ht : t = takeLineStart bits clock s) :
    t.rtu = { s.rtu with
      lock := .acquiring, candidate := some f.record
      flywheel := none, acquire := some (t.now + 100000000), awaitSwitch := false
      frame := some (.start t.now), prev := t.rtu.prev, cur := t.rtu.cur
      params := t.rtu.params, lockLosses := t.rtu.lockLosses } ∧
    t.rtu.prev = s.rtu.cur.map InputLine.stripped ∧
    t.out =
      { running := true, inputTimed := false, geometry := s.rtu.params.geometry,
        period := s.rtu.params.period, startedAt := t.now, line := 0, activeCount := 0,
        frameEnded := t.out.frameEnded, activated := t.out.activated
        counter := s.out.counter + 1
        tx := startWord .blank true :: List.replicate s.rtu.params.geometry.width 0 } := by
  have hbegun := departure_begun (clock := clock) hbits hlock hended hf
  have hstarted := departure_started clock s
  have hwatching : s.rtu.watching = false := by
    obtain ⟨-, -, hwatch, -⟩ := hlaw
    exact Bool.eq_false_iff.2 fun h => by simp [hwatch h] at hlock
  generalize departLocked .acquiring .mismatch (endParseActs s) (lineEnded clock s) = z
    at hbegun hstarted
  rw [← ht] at hbegun
  have hznow : z.now = max s.now clock := hstarted.now.trans (by simp [departing, lineEnded])
  have htn : t.now = max s.now clock := ht ▸ takeLineStart_now bits clock s
  have hzout := hstarted.out
  have hdeparting : (departing .acquiring (lineEnded clock s)).out = s.out := by
    simp [departing, lineEnded]
  rw [departure_layout, hdeparting, ← htn] at hzout
  obtain ⟨hout, -⟩ := hbegun.runsOn
  have hto : t.out = z.out := hout
  obtain ⟨hzrtu, -⟩ := hstarted.rtu
  have htr := hbegun.rtu
  simp only [becomeCandidate, startAcquire, State.withRtu_rtu, State.withRtu_now, hznow] at htr
  rw [hzrtu] at htr
  refine ⟨?_, ?_, ?_⟩
  · rw [htr, htn]
    simp [departing, lineEnded, Config.acquireNanos, hwatching, InputFrame.record]
  · rw [htr]
    simp [departing, lineEnded]
  · rw [hto]
    exact hzout

/-- With no command waiting only the packets of the delay are counted as not forwarded (R53, R150). -/
theorem departLocked_notForwarded {new : LockState} {cause : LockCause} {errors : List (State → State)}
    {x : State} (herrors : ∀ act ∈ errors, ∀ y, (act y).mlu.notForwarded = y.mlu.notForwarded)
    (hq : x.ce.queue = []) (hx : x.mlu.notForwarded ≤ 65535) :
    (departLocked new cause errors x).mlu.notForwarded = min 65535 (x.mlu.notForwarded +
      ((x.rtu.prev.map fun l => l.forward.length).getD 0 +
        (x.rtu.cur.map fun l => l.forward.length).getD 0)) := by
  have hmlu : (departureActs new cause errors x).2.mlu.notForwarded = x.mlu.notForwarded := by
    simp [departureActs, departing]
  have hce : (departureActs new cause errors x).2.ce = x.ce := by simp [departureActs, departing]
  rw [departLocked_eq, ← hmlu]
  refine startInternalFrame_raises (by rw [hce]; exact hq) (fun _ m => m.notForwarded) ?_
    (by rw [hmlu]; exact hx)
  have hdropped := ((RaisesBy.of_keeps herrors).append (dropActs_raises x.rtu.prev)).append
    (dropActs_raises x.rtu.cur)
  have hquiet : RaisesBy (fun x => x.mlu.notForwarded) [countLockLoss, offerLock .locked new cause] 0 :=
    .of_keeps (by simp [countLockLoss])
  have hacts := hdropped.interleaved hquiet (departing new x)
  rwa [Nat.zero_add, Nat.add_zero] at hacts

/-- With no command waiting the LOCK notification carries the number of the internal frame (R50, R58). -/
theorem departLocked_queues {new : LockState} {cause : LockCause} {errors : List (State → State)}
    {x : State} (hserve : ServeLine errors) (herrors : ∀ act ∈ errors, ∀ y, (act y).nq = y.nq)
    (hq : x.ce.queue = []) :
    QueuedNow (.lock .locked new cause) (departLocked new cause errors x) := by
  have hce : (departureActs new cause errors x).2.ce = x.ce := by simp [departureActs, departing]
  rw [departLocked_eq]
  refine (startInternalFrame_queues (by rw [hce]; exact hq) (n := .lock .locked new cause)
    (mem_departureActs.2 (.inr (.inr rfl))) (fun act hact y => ?_)
    (departureActs_serveLine new cause x hserve)).1
  obtain (hact | hact | hact) | rfl | rfl := mem_departureActs.1 hact
  · exact .of_eq (herrors act hact y)
  · exact .of_eq (by simp [dropActs_each _ act hact y])
  · exact .of_eq (by simp [dropActs_each _ act hact y])
  · exact .of_eq rfl
  · exact offerWith_growing ..

/-- A mismatch in LOCKED with no command waiting: what is counted and queued (R46, R50, R53, R150). -/
theorem frameStart_leavesLocked_counts {f : InputFrame} (hbits : bits.getLsbD 4 = true)
    (hlock : s.rtu.lock = .locked) (hended : s.endedFrame = some f)
    (hf : f.matchesGeometry s.rtu.locked = false) {t : State} (ht : t = takeLineStart bits clock s)
    (hq : s.ce.queue = []) (hlosses : s.rtu.lockLosses ≤ 65535)
    (hforwarded : s.mlu.notForwarded ≤ 65535) :
    t.rtu.params = s.rtu.params ∧ t.rtu.lockLosses = min 65535 (s.rtu.lockLosses + 1) ∧
    t.mlu.notForwarded = min 65535 (s.mlu.notForwarded +
      ((s.rtu.prev.map fun l => l.forward.length).getD 0 +
        (s.rtu.cur.map fun l => l.forward.length).getD 0)) ∧
    QueuedNow (.lock .locked .acquiring .mismatch) t := by
  have hbegun := departure_begun (clock := clock) hbits hlock hended hf
  have hrtu : ∀ act ∈ endParseActs s, ∀ x, (act x).rtu = x.rtu := fun act hact x => by
    simp [endParseActs_each s act hact x]
  have hnq : ∀ act ∈ endParseActs s, ∀ x, (act x).nq = x.nq := fun act hact x => by
    simp [endParseActs_each s act hact x]
  have hcount : ∀ act ∈ endParseActs s, ∀ x, (act x).mlu.notForwarded = x.mlu.notForwarded :=
    fun act hact x => by simp [endParseActs_mlu s act hact x]
  have hparams := departLocked_params (new := .acquiring) (cause := .mismatch) (s := lineEnded clock s)
    hq hrtu
  have hloss := departLocked_lockLosses (new := .acquiring) (cause := .mismatch)
    (s := lineEnded clock s) hq hrtu hlosses
  have hdropped := departLocked_notForwarded (new := .acquiring) (cause := .mismatch)
    (x := lineEnded clock s) hcount hq hforwarded
  have hqueued := departLocked_queues (new := .acquiring) (cause := .mismatch)
    (x := lineEnded clock s) (endParseActs_serveLine s) hnq hq
  generalize departLocked .acquiring .mismatch (endParseActs s) (lineEnded clock s) = z
    at hbegun hparams hloss hdropped hqueued
  rw [← ht] at hbegun
  refine ⟨?_, ?_, ?_, ?_⟩
  · rw [hbegun.rtu]; exact hparams
  · rw [hbegun.rtu]; exact hloss
  · rw [hbegun.notForwarded]; exact hdropped
  · obtain ⟨hout, -⟩ := hbegun.runsOn
    rw [QueuedNow, hbegun.nq, hout]
    exact hqueued

end FrameStart

end Sys2Proof.Machine
end

section
/-! What an ended input frame has measured (R39 to R41), and the frame start that ends it. -/

namespace Sys2Proof.Machine

/-! ### Lists that grow at their end -/

theorem getElem?_concat_eq_some {α : Type} {xs : List α} {x a : α} {i : Nat} :
    (xs ++ [x])[i]? = some a ↔ xs[i]? = some a ∨ (i = xs.length ∧ x = a) := by
  rw [List.getElem?_append]
  split_ifs with h
  · simp [h.ne]
  · rw [List.getElem?_eq_none (Nat.not_lt.1 h), List.getElem?_singleton]
    split_ifs with h' <;> simp <;> omega

/-- With nothing accepted before place `i`, all from there on is accepted exactly if the count says so. -/
theorem countP_add_eq_length_iff {α : Type} {p : α → Bool} {xs : List α} {i : Nat} (hi : i ≤ xs.length)
    (hbefore : ∀ k < i, ∀ a, xs[k]? = some a → p a = false) :
    i + xs.countP p = xs.length ↔ ∀ k a, i ≤ k → xs[k]? = some a → p a = true := by
  have htake : (xs.take i).countP p = 0 := by
    rw [List.countP_eq_zero]
    intro a ha
    obtain ⟨k, hk, rfl⟩ := List.mem_iff_getElem.1 ha
    rw [List.length_take] at hk
    rw [Bool.not_eq_true]
    exact hbefore k (by omega) _ (by rw [List.getElem_take, List.getElem?_eq_getElem])
  have hdrop : xs.countP p = (xs.drop i).countP p := by
    conv_lhs => rw [← List.take_append_drop i xs, List.countP_append, htake, Nat.zero_add]
  have hlength : (xs.drop i).length = xs.length - i := List.length_drop
  have hall : (xs.drop i).countP p = (xs.drop i).length ↔
      ∀ k a, i ≤ k → xs[k]? = some a → p a = true := by
    rw [List.countP_eq_length]
    constructor
    · intro h k a hik hk
      refine h a (List.mem_iff_getElem?.2 ⟨k - i, ?_⟩)
      rw [List.getElem?_drop, Nat.add_sub_cancel' hik, hk]
    · intro h a ha
      obtain ⟨k, hk⟩ := List.mem_iff_getElem?.1 ha
      rw [List.getElem?_drop] at hk
      exact h (i + k) a (by omega) hk
  rw [← hall, hdrop]
  omega

/-! ### Frames measured line by line -/

/-- No line between two ACTIVE ones is of another kind (R41). -/
def Gapless (lines : List InputLine) : Prop :=
  ∀ (i j k : Nat) (li lj lk : InputLine), i < j → j < k → lines[i]? = some li → lines[j]? = some lj →
    lines[k]? = some lk → li.kind = .active → lk.kind = .active → lj.kind = .active

/-- No line after an ACTIVE one is of another kind. -/
def ActiveToEnd (lines : List InputLine) : Prop :=
  ∀ (i j : Nat) (li lj : InputLine), i < j → lines[i]? = some li → lines[j]? = some lj →
    li.kind = .active → lj.kind = .active

theorem gapless_concat {lines : List InputLine} {l : InputLine} :
    Gapless (lines ++ [l]) ↔ Gapless lines ∧ (l.kind = .active → ActiveToEnd lines) := by
  constructor
  · refine fun h => ⟨fun i j k li lj lk hij hjk hi hj hk => ?_, fun hl i j li lj hij hi hj hli => ?_⟩
    · exact h i j k li lj lk hij hjk (getElem?_concat_eq_some.2 (.inl hi))
        (getElem?_concat_eq_some.2 (.inl hj)) (getElem?_concat_eq_some.2 (.inl hk))
    · have hlt : j < lines.length := (List.getElem?_eq_some_iff.1 hj).1
      exact h i j lines.length li lj l hij hlt (getElem?_concat_eq_some.2 (.inl hi))
        (getElem?_concat_eq_some.2 (.inl hj)) (getElem?_concat_eq_some.2 (.inr ⟨rfl, rfl⟩)) hli hl
  · rintro ⟨h, hend⟩ i j k li lj lk hij hjk hi hj hk hli hlk
    have hlt : k < lines.length + 1 := by
      simpa using (List.getElem?_eq_some_iff.1 hk).1
    have hi : lines[i]? = some li := (getElem?_concat_eq_some.1 hi).resolve_right (by omega)
    have hj : lines[j]? = some lj := (getElem?_concat_eq_some.1 hj).resolve_right (by omega)
    obtain hk | ⟨-, rfl⟩ := getElem?_concat_eq_some.1 hk
    · exact h i j k li lj lk hij hjk hi hj hk hli hlk
    · exact hend hlk i j li lj hij hi hj hli

/-- What a frame of these lines, begun at `now`, has measured (R39, R40). -/
structure Measured (now : Nat) (lines : List InputLine) (f : InputFrame) : Prop where
  startedAt : f.startedAt = now
  length : f.lines = lines.length
  active : f.active = lines.countP fun l => decide (l.kind = .active)
  mgmt : f.mgmt = lines.countP fun l => decide (l.kind = .mgmt)
  noActive : f.active = 0 → f.firstActive = 0 ∧ f.width = 0
  first : ∀ i l, lines[i]? = some l → l.kind = .active →
    (∀ k < i, ∀ m, lines[k]? = some m → m.kind ≠ .active) →
    f.firstActive = i ∧ f.width = l.words.length
  contiguous : f.contiguous = true ↔ Gapless lines
  uniform : f.uniform = true ↔ ∀ l ∈ lines, l.kind = .active → l.words.length = f.width
  clean : f.clean = true ↔ ∀ l ∈ lines, l.overLong = false ∧ l.unclean = false

theorem measured_nil (now : Nat) : Measured now [] (.start now) := by
  constructor <;> simp [InputFrame.start, Gapless]

/-- A line of another kind than ACTIVE measures no ACTIVE part. -/
theorem close_other {f : InputFrame} {l : InputLine} (hroom : f.lines < 4401) (hl : l.kind ≠ .active) :
    f.close l = { f with
      lines := f.lines + 1, mgmt := if l.kind = .mgmt then f.mgmt + 1 else f.mgmt
      clean := f.clean && !l.overLong && !l.unclean } := by
  simp [InputFrame.close, Config.frameLines, Nat.not_le.2 hroom, hl]

/-- The first ACTIVE line gives place and width. -/
theorem close_first {f : InputFrame} {l : InputLine} (hroom : f.lines < 4401) (hl : l.kind = .active)
    (hactive : f.active = 0) : f.close l = { f with
      lines := f.lines + 1, active := 1, firstActive := f.lines, width := l.words.length
      clean := f.clean && !l.overLong && !l.unclean } := by
  simp [InputFrame.close, Config.frameLines, Nat.not_le.2 hroom, hl, hactive]

/-- A later ACTIVE line is held against them. -/
theorem close_later {f : InputFrame} {l : InputLine} (hroom : f.lines < 4401) (hl : l.kind = .active)
    (hactive : f.active ≠ 0) : f.close l = { f with
      lines := f.lines + 1, active := f.active + 1
      contiguous := f.contiguous && decide (f.firstActive + f.active = f.lines)
      uniform := f.uniform && decide (l.words.length = f.width)
      clean := f.clean && !l.overLong && !l.unclean } := by
  simp [InputFrame.close, Config.frameLines, Nat.not_le.2 hroom, hl, hactive]

section Close
variable {now : Nat} {lines : List InputLine} {f : InputFrame} (h : Measured now lines f)
include h

theorem Measured.active_eq_zero : f.active = 0 ↔ ∀ l ∈ lines, l.kind ≠ .active := by
  simp [h.active, List.countP_eq_zero]

/-- With an ACTIVE line measured, the first of them is at the place and of the width measured. -/
theorem Measured.exists_first (hactive : f.active ≠ 0) : ∃ l, lines[f.firstActive]? = some l ∧
    l.kind = .active ∧ f.width = l.words.length ∧
    ∀ k < f.firstActive, ∀ m, lines[k]? = some m → m.kind ≠ .active := by
  set p : InputLine → Bool := fun l => decide (l.kind = .active) with hp
  have hlt : lines.findIdx p < lines.length := by
    rw [List.findIdx_lt_length]
    simpa [hp] using mt h.active_eq_zero.2 hactive
  have hget : lines[lines.findIdx p]? = some lines[lines.findIdx p] := List.getElem?_eq_getElem hlt
  have hkind : lines[lines.findIdx p].kind = .active := by
    simpa [hp] using List.findIdx_getElem (w := hlt)
  have hbefore : ∀ k < lines.findIdx p, ∀ m, lines[k]? = some m → m.kind ≠ .active := by
    intro k hk m hm
    obtain ⟨hk', rfl⟩ := List.getElem?_eq_some_iff.1 hm
    simpa [hp] using List.not_of_lt_findIdx hk
  obtain ⟨hfirst, hwidth⟩ := h.first _ _ hget hkind hbefore
  rw [← hfirst] at hbefore
  exact ⟨_, by rw [hfirst]; exact hget, hkind, hwidth, hbefore⟩

/-- The ACTIVE lines reach to the end exactly if their place and count say so. -/
theorem Measured.activeToEnd_iff (hactive : f.active ≠ 0) :
    ActiveToEnd lines ↔ f.firstActive + f.active = f.lines := by
  obtain ⟨l, hl, hkind, -, hbefore⟩ := h.exists_first hactive
  have hlt : f.firstActive < lines.length := (List.getElem?_eq_some_iff.1 hl).1
  rw [h.active, h.length, countP_add_eq_length_iff hlt.le (by simpa using hbefore)]
  simp only [decide_eq_true_eq]
  constructor
  · intro hend k a hk ha
    obtain rfl | hk := hk.eq_or_lt
    · rw [hl] at ha
      cases ha
      exact hkind
    · exact hend _ k l a hk hl ha hkind
  · intro hall i j li lj hij hi hj hli
    exact hall j lj ((not_lt.1 fun hlt => hbefore i hlt li hi hli).trans hij.le) hj

/-- An ACTIVE line of the longer list with none before it. -/
theorem Measured.first_concat {l m : InputLine} {i : Nat} (hm : (lines ++ [l])[i]? = some m)
    (hbefore : ∀ k < i, ∀ m, (lines ++ [l])[k]? = some m → m.kind ≠ .active) :
    (lines[i]? = some m ∧ (m.kind = .active → f.firstActive = i ∧ f.width = m.words.length)) ∨
    (i = f.lines ∧ m = l ∧ f.active = 0) := by
  have hbefore' : ∀ k < i, ∀ m, lines[k]? = some m → m.kind ≠ .active := fun k hk m hm =>
    hbefore k hk m (getElem?_concat_eq_some.2 (.inl hm))
  obtain hm | ⟨rfl, rfl⟩ := getElem?_concat_eq_some.1 hm
  · exact .inl ⟨hm, fun hkind => h.first i m hm hkind hbefore'⟩
  · refine .inr ⟨h.length.symm, rfl, h.active_eq_zero.2 fun m hm => ?_⟩
    obtain ⟨k, hk⟩ := List.mem_iff_getElem?.1 hm
    exact hbefore' k (List.getElem?_eq_some_iff.1 hk).1 m hk

/-- The line is closed into the frame, and the frame has measured one line more. -/
theorem Measured.close (hroom : lines.length < 4401) (l : InputLine) :
    Measured now (lines ++ [l]) (f.close l) := by
  rw [← h.length] at hroom
  have hclean : (f.clean && !l.overLong && !l.unclean) = true ↔
      ∀ m ∈ lines ++ [l], m.overLong = false ∧ m.unclean = false := by
    simp only [List.forall_mem_append, List.forall_mem_singleton, Bool.and_eq_true, Bool.not_eq_true',
      h.clean, and_assoc]
  by_cases hl : l.kind = .active
  · by_cases hactive : f.active = 0
    · rw [close_first hroom hl hactive]
      have hnone := h.active_eq_zero.1 hactive
      constructor
      case startedAt => exact h.startedAt
      case length => simp [h.length]
      case active => simp [← h.active, hactive, hl]
      case mgmt => simp [h.mgmt, hl]
      case noActive => simp
      case first =>
        intro i m hm hkind hbefore
        obtain ⟨hm, -⟩ | ⟨rfl, rfl, -⟩ := h.first_concat hm hbefore
        · exact absurd hkind (hnone m (List.mem_iff_getElem?.2 ⟨i, hm⟩))
        · exact ⟨rfl, rfl⟩
      case contiguous =>
        rw [gapless_concat, ← h.contiguous]
        exact ⟨fun hc => ⟨hc, fun _ i j li lj _ hi _ hli =>
          absurd hli (hnone li (List.mem_iff_getElem?.2 ⟨i, hi⟩))⟩, And.left⟩
      case uniform =>
        have huniform : f.uniform = true := h.uniform.2 fun m hm hkind => absurd hkind (hnone m hm)
        refine iff_of_true huniform fun m hm hkind => ?_
        obtain hm | hm := List.mem_append.1 hm
        · exact absurd hkind (hnone m hm)
        · rw [List.mem_singleton.1 hm]
      case clean => exact hclean
    · rw [close_later hroom hl hactive]
      constructor
      case startedAt => exact h.startedAt
      case length => simp [h.length]
      case active => simp [h.active, hl]
      case mgmt => simp [h.mgmt, hl]
      case noActive => simp
      case first =>
        intro i m hm hkind hbefore
        obtain ⟨-, hm⟩ | ⟨-, -, hzero⟩ := h.first_concat hm hbefore
        · exact hm hkind
        · exact absurd hzero hactive
      case contiguous =>
        simp only [Bool.and_eq_true, decide_eq_true_eq, gapless_concat, h.contiguous, hl,
          h.activeToEnd_iff hactive, true_implies]
      case uniform => simp [h.uniform, hl, or_imp, forall_and]
      case clean => exact hclean
  · rw [close_other hroom hl]
    constructor
    case startedAt => exact h.startedAt
    case length => simp [h.length]
    case active => simp [h.active, hl]
    case mgmt =>
      simp only [h.mgmt, List.countP_append, List.countP_singleton, decide_eq_true_eq]
      split_ifs <;> rfl
    case noActive => exact h.noActive
    case first =>
      intro i m hm hkind hbefore
      obtain ⟨-, hm⟩ | ⟨-, rfl, -⟩ := h.first_concat hm hbefore
      · exact hm hkind
      · exact absurd hkind hl
    case contiguous => simp [gapless_concat, h.contiguous, hl]
    case uniform => simp [h.uniform, hl, or_imp, forall_and]
    case clean => exact hclean

end Close

/-- A frame of up to 4401 lines has measured them all. -/
theorem measured_foldl (now : Nat) (lines : List InputLine) (h : lines.length ≤ 4401) :
    Measured now lines (lines.foldl InputFrame.close (.start now)) := by
  induction lines using List.reverseRecOn with
  | nil => exact measured_nil now
  | append_singleton lines l ih =>
    rw [List.length_append, List.length_singleton] at h
    rw [List.foldl_append]
    exact (ih (by omega)).close (by omega) l

/-! ### The frame start in each lock state -/

/-- Settles O18: the lock-state rules case by case, and the frame measured line by line. -/
theorem frameStartLeavesFreeRun : Obligations.FrameStartLeavesFreeRun := by
  unfold Obligations.FrameStartLeavesFreeRun
  refine ⟨fun s bits clock hreset hlock hbits => ?freeRun,
    fun s bits clock f hreset hbits hlaw hended => ?ended,
    fun s bits clock hreset hbits hlock hwatching =>
      ⟨_, exec_inputLineStart hreset, takeLineStart_now bits clock s,
        frameStart_watches hbits hlock hwatching rfl⟩,
    fun lines now f hroom hf => ?measured⟩
  case freeRun =>
    obtain ⟨hrtu, hnq, ⟨hout, hct, hcomp, hsf, hos, hce⟩, haddress, hsequence⟩ :=
      frameStart_freeRun (clock := clock) hlock hbits rfl
    have hnow := takeLineStart_now bits clock s
    refine ⟨_, exec_inputLineStart hreset, hnow, ?_, ?_, ?_, ?_, ?_, ?_, ?_, ?_, ?_, ?_, ?_, hnq, hout, hct,
      hcomp, hsf, hos, hce, haddress, hsequence⟩ <;> rw [hrtu]
    case refine_3 => rw [hnow]
    case refine_7 => exact congrArg some (lineOf_frameStart hbits)
  case ended =>
    have hother {g : Option Geometry} (hf : ¬ f.Matches g) := InputFrame.matchesGeometry_false hf
    have hmatch {g : Option Geometry} (hf : f.Matches g) := (f.matchesGeometry_iff g).2 hf
    refine ⟨_, exec_inputLineStart hreset, takeLineStart_now bits clock s, fun hlock hf => ?_,
      fun hlock hf => ?_, fun hlock hf => ?_, fun hlock hf => ?_, fun hlock hwatching hf => ?_,
      fun hlock hwatching hf => ?_⟩
    · refine frameStart_enters hbits hlaw (by simp [hlock]) ?_
      rw [hended]
      exact takeFrameStart_acquiring_match hlock (hmatch hf)
    · refine frameStart_newCandidate hbits hlock ?_ rfl
      rw [hended]
      exact takeFrameStart_acquiring_other hlock (hother hf)
    · refine frameStart_keepsLocked hbits ?_ rfl
      rw [hended]
      exact takeFrameStart_locked_match hlock (hmatch hf)
    · obtain ⟨hrtu, hprev, hout⟩ := frameStart_leavesLocked hbits hlaw hlock hended (hother hf) rfl
      refine ⟨hrtu, hprev, ?_, ?_, ?_, ?_, ?_, ?_, ?_, ?_,
        frameStart_leavesLocked_counts hbits hlock hended (hother hf) rfl⟩ <;> rw [hout]
    · refine frameStart_enters hbits hlaw (by simp [hlock]) ?_
      rw [hended]
      exact takeFrameStart_watching_match hlock hwatching (hmatch hf)
    · refine frameStart_leavesHoldover hbits hlaw hlock ?_ rfl
      rw [hended]
      exact takeFrameStart_watching_other hlock hwatching (hother hf)
  case measured =>
    have h := measured_foldl now lines (by omega)
    rw [← hf] at h
    exact ⟨h.startedAt, h.length, h.active, h.mgmt, h.noActive, h.first, h.contiguous, h.uniform,
      h.clean⟩

end Sys2Proof.Machine
end

section
/-! What a region makes of a colour: its operations and its channel mask (R73, R74). -/

namespace Sys2Proof.Machine

/-! ### Operations -/

/-- Every operation keeps a channel within 0..1023. -/
theorem RegionOp.channel_le (op : RegionOp) {a d c : Nat} (ha : a ≤ 16) (hd : d ≤ 1023)
    (hc : c ≤ 1023) : op.channel a d c ≤ 1023 := by
  cases op with
  | copy => exact hc
  | max => exact Nat.max_le.2 ⟨hd, hc⟩
  | min => exact (Nat.min_le_left d c).trans hd
  | invert => exact Nat.sub_le 1023 d
  | dim =>
    have hscaled : d * a ≤ 1023 * 16 := Nat.mul_le_mul hd ha
    simp only [RegionOp.channel]
    omega
  | blend =>
    have hground : d * (16 - a) ≤ 1023 * (16 - a) := Nat.mul_le_mul_right _ hd
    have hsource : c * a ≤ 1023 * a := Nat.mul_le_mul_right _ hc
    simp only [RegionOp.channel]
    omega

/-- INVERT and DIM read no source colour. -/
theorem RegionOp.channel_sourceless {op : RegionOp} (h : op = .invert ∨ op = .dim) (a d c c' : Nat) :
    op.channel a d c = op.channel a d c' := by
  obtain rfl | rfl := h <;> rfl

/-! ### The channel mask -/

theorem Region.combine_legal (r : Region) {a : Nat} {d c : Colour} (ha : a ≤ 16) (hd : d.Legal)
    (hc : c.Legal) : (r.combine a d c).Legal := by
  obtain ⟨hd0, hd1, hd2⟩ := hd
  obtain ⟨hc0, hc1, hc2⟩ := hc
  have hmasked (b : Bool) {m n : Nat} (hm : m ≤ 1023) (hn : n ≤ 1023) :
      (if b then r.op.channel a m n else m) ≤ 1023 := by
    split
    · exact r.op.channel_le ha hm hn
    · exact hm
  exact ⟨hmasked _ hd0 hc0, hmasked _ hd1 hc1, hmasked _ hd2 hc2⟩

theorem Region.combine_sourceless {r : Region} (h : r.op = .invert ∨ r.op = .dim) (a : Nat)
    (d c c' : Colour) : r.combine a d c = r.combine a d c' := by
  simp only [Region.combine, RegionOp.channel_sourceless h a _ (Colour.c0 c) c'.c0,
    RegionOp.channel_sourceless h a _ (Colour.c1 c) c'.c1,
    RegionOp.channel_sourceless h a _ (Colour.c2 c) c'.c2]

/-- COPY over all three channels gives the source colour. -/
theorem Region.combine_copy_full {r : Region} (hop : r.op = .copy) (hmask : r.mask = 7) (a : Nat)
    (d c : Colour) : r.combine a d c = c := by
  simp [Region.combine, hop, hmask, RegionOp.channel]

/-- Settles O52: each operation keeps the range, and each channel follows its own mask bit. -/
theorem regionCombinesChannels : Obligations.RegionCombinesChannels := by
  unfold Obligations.RegionCombinesChannels
  intro r a d c ha hd hc
  refine ⟨r.combine_legal ha hd hc, ?_⟩
  simp only [List.forall_mem_cons, List.not_mem_nil, false_implies, implies_true, and_true]
  refine ⟨?_, ?_, ?_⟩ <;>
    exact ⟨fun hoff => if_neg (Bool.eq_false_iff.1 hoff),
      fun hon => (if_pos hon).trans (by cases r.op <;> rfl)⟩

end Sys2Proof.Machine
end

section
/-! The pixel of a bank: the visit order, the source of each region, and the topmost region that takes part
(R66 to R72). -/

namespace Sys2Proof.Machine

/-! ### Records of a legal bank (R1) -/

theorem CompositionSet.Legal.region {bank : CompositionSet} (h : bank.Legal) {i : Nat} (hi : i < 16) :
    (bank.region i).Legal := by
  obtain ⟨hlength, -, -, hregions, -⟩ := h
  rw [CompositionSet.region, List.getD_eq_getElem _ _ (by omega)]
  exact hregions _ (List.getElem_mem _)

theorem CompositionSet.Legal.entry {bank : CompositionSet} (h : bank.Legal) (v : Byte) :
    (bank.entry v.toNat).Legal := by
  obtain ⟨-, hlength, -, -, hpalette, -⟩ := h
  rw [CompositionSet.entry, List.getD_eq_getElem _ _ (hlength ▸ v.isLt)]
  exact hpalette _ (List.getElem_mem _)

/-! ### A bank without one region -/

theorem CompositionSet.without_region_ne (bank : CompositionSet) {i k : Nat} (hk : k ≠ i) :
    (bank.without i).region k = bank.region k := by
  simp [CompositionSet.without, CompositionSet.region, List.getElem?_set_ne hk.symm]

theorem CompositionSet.without_region_self {bank : CompositionSet} {i : Nat}
    (hi : i < bank.regions.length) :
    (bank.without i).region i = { bank.region i with enable := false } := by
  simp [CompositionSet.without, CompositionSet.region, hi]

theorem CompositionSet.without_layer {bank : CompositionSet} {i : Nat} (hi : i < bank.regions.length)
    (k : Nat) : ((bank.without i).region k).layer = (bank.region k).layer := by
  obtain rfl | hk := eq_or_ne k i
  · rw [without_region_self hi]
  · rw [without_region_ne bank hk]

theorem CompositionSet.without_entry (bank : CompositionSet) (i v : Nat) :
    (bank.without i).entry v = bank.entry v := rfl

/-! ### The visit order (R67) -/

/-- The visit order holds the sixteen regions, provided that the layers are those of R2. -/
theorem mem_visitOrder {bank : CompositionSet} (hlayers : ∀ i < 16, (bank.region i).layer ≤ 15)
    {i : Nat} : i ∈ visitOrder bank ↔ i < 16 := by
  simp only [visitOrder, List.mem_flatMap, List.mem_filter, List.mem_range, decide_eq_true_eq]
  constructor
  · rintro ⟨-, -, hi, -⟩
    exact hi
  · intro hi
    have hlayer := hlayers i hi
    exact ⟨_, by omega, hi, rfl⟩

/-- The visit order goes up the layers, and up the indices within one (R67). -/
theorem visitOrder_sorted (bank : CompositionSet) :
    (visitOrder bank).Pairwise (visitedBefore bank) := by
  refine List.pairwise_flatMap.2 ⟨fun layer _ => ?_, ?_⟩
  · refine List.Pairwise.imp_of_mem (fun {i k} hi hk hik => ?_) (List.pairwise_lt_range.filter _)
    simp only [List.mem_filter, decide_eq_true_eq] at hi hk
    exact .inr ⟨by omega, hik⟩
  · refine List.pairwise_lt_range.imp fun {l m} hlm i hi k hk => ?_
    simp only [List.mem_filter, decide_eq_true_eq] at hi hk
    exact .inl (by omega)

theorem visitedBefore_irrefl (bank : CompositionSet) (i : Nat) : ¬ visitedBefore bank i i := by
  simp [visitedBefore]

theorem visitedBefore_asymm {bank : CompositionSet} {i k : Nat} (h : visitedBefore bank i k) :
    ¬ visitedBefore bank k i := by
  simp only [visitedBefore] at h ⊢
  omega

/-- Each region stands once in the visit order, with those visited after it behind it. -/
theorem visitOrder_split {bank : CompositionSet} (hlayers : ∀ i < 16, (bank.region i).layer ≤ 15)
    {i : Nat} (hi : i < 16) : ∃ before after, visitOrder bank = before ++ i :: after ∧ i ∉ before ∧
      ∀ k ∈ after, k < 16 ∧ visitedBefore bank i k := by
  obtain ⟨before, after, heq⟩ := List.append_of_mem ((mem_visitOrder hlayers).2 hi)
  obtain ⟨-, htail, hcross⟩ := List.pairwise_append.1 (heq ▸ visitOrder_sorted bank)
  obtain ⟨hafter, -⟩ := List.pairwise_cons.1 htail
  refine ⟨before, after, heq,
    fun hmem => visitedBefore_irrefl bank i (hcross i hmem i List.mem_cons_self),
    fun k hk => ⟨(mem_visitOrder hlayers).1 ?_, hafter k hk⟩⟩
  rw [heq]
  exact List.mem_append_right _ (List.mem_cons_of_mem _ hk)

/-- Disabling a region leaves the visit order. -/
theorem visitOrder_without {bank : CompositionSet} {i : Nat} (hi : i < bank.regions.length) :
    visitOrder (bank.without i) = visitOrder bank := by
  simp only [visitOrder, CompositionSet.without_layer hi]

/-! ### One region at a pixel (R66 to R72) -/

theorem takesPart_iff {s : State} {x y i : Nat} : takesPart s x y i = true ↔
    (s.ct.activeSet.region i).enable = true ∧
      (s.ct.activeSet.region i).covers s.out.geometry x y = true ∧
      s.comp.cueMask.getLsbD i = false := by
  simp [takesPart, and_assoc]

theorem visitRegion_idle {s : State} {x y i : Nat} (h : takesPart s x y i = false) (d : Colour) :
    visitRegion s x y d i = d := by
  simp [visitRegion, h]

/-- A region that takes part and is not skipped is combined with what lies beneath. -/
theorem visitRegion_some {s : State} {x y i a : Nat} {c : Colour} (h : takesPart s x y i = true)
    (hsource : sourceAt s.ct.activeSet s.sf.showing i x = some (c, a)) (d : Colour) :
    visitRegion s x y d i = (s.ct.activeSet.region i).combine a d c := by
  simp [visitRegion, h, hsource]

/-- A region skipped by transparency leaves what lies beneath. -/
theorem visitRegion_skipped {s : State} {x y i : Nat}
    (hsource : sourceAt s.ct.activeSet s.sf.showing i x = none) (d : Colour) :
    visitRegion s x y d i = d := by
  simp [visitRegion, hsource]

section SourceAt
variable {bank : CompositionSet} {showing : LineBuffer} {i x : Nat}

theorem sourceAt_input (h : (bank.region i).source = .input) :
    sourceAt bank showing i x = some (.black, (bank.region i).opacity) := by
  simp [sourceAt, h]

theorem sourceAt_fill (h : (bank.region i).source = .fill) :
    sourceAt bank showing i x = some ((bank.region i).fill, (bank.region i).opacity) := by
  simp [sourceAt, h]

theorem sourceAt_missing (h : (bank.region i).source = .overlay)
    (hstatus : showing.statusOf i = .budget ∨ showing.statusOf i = .late) :
    sourceAt bank showing i x = some ((bank.region i).fill, 16) := by
  obtain hstatus | hstatus := hstatus <;> simp [sourceAt, h, hstatus]

/-- Where the span is present, the overlay index picks the palette entry, or transparency. -/
theorem sourceAt_present (h : (bank.region i).source = .overlay) {offset n : Nat}
    (hstatus : showing.statusOf i = .present offset n) {v : Byte} {e : PaletteEntry}
    (hv : v = Memory.read showing.octets (offset + (x - (bank.region i).x0)))
    (he : e = bank.entry v.toNat) :
    sourceAt bank showing i x =
      if (bank.region i).key = some v ∨ e.opacity = 0 then none else some (e.colour, e.opacity) := by
  subst hv he
  simp only [sourceAt, h, hstatus]

/-- The source colour of a region of a legal bank is legal, with an opacity in range. -/
theorem sourceAt_legal (hbank : bank.Legal) (hi : i < 16) {c : Colour} {a : Nat}
    (h : sourceAt bank showing i x = some (c, a)) : c.Legal ∧ a ≤ 16 := by
  obtain ⟨-, -, -, -, -, -, -, hopacity, hfill, -⟩ := hbank.region hi
  cases hsource : (bank.region i).source with
  | input =>
    cases (sourceAt_input hsource).symm.trans h
    exact ⟨by decide, hopacity⟩
  | fill =>
    cases (sourceAt_fill hsource).symm.trans h
    exact ⟨hfill, hopacity⟩
  | overlay =>
    cases hstatus : showing.statusOf i with
    | present offset n =>
      rw [sourceAt_present hsource hstatus rfl rfl] at h
      split at h
      · cases h
      · cases h
        exact hbank.entry _
    | budget =>
      cases (sourceAt_missing hsource (.inl hstatus)).symm.trans h
      exact ⟨hfill, le_rfl⟩
    | late =>
      cases (sourceAt_missing hsource (.inr hstatus)).symm.trans h
      exact ⟨hfill, le_rfl⟩
    | none => simp [sourceAt, hsource, hstatus] at h
    | placed => simp [sourceAt, hsource, hstatus] at h

/-- A region other than the one disabled has the same source. -/
theorem sourceAt_without {k : Nat} (hk : k ≠ i) :
    sourceAt (bank.without i) showing k x = sourceAt bank showing k x := by
  simp only [sourceAt, CompositionSet.without_region_ne bank hk, CompositionSet.without_entry]

end SourceAt

theorem visitRegion_legal {s : State} (hbank : s.ct.activeSet.Legal) {x y i : Nat} (hi : i < 16)
    {d : Colour} (hd : d.Legal) : (visitRegion s x y d i).Legal := by
  cases htakes : takesPart s x y i with
  | false => rwa [visitRegion_idle htakes]
  | true =>
    cases hsource : sourceAt s.ct.activeSet s.sf.showing i x with
    | none => rwa [visitRegion_skipped hsource]
    | some source =>
      obtain ⟨hc, ha⟩ := sourceAt_legal hbank hi hsource
      rw [visitRegion_some htakes hsource]
      exact Region.combine_legal _ ha hd hc

/-! ### A region disabled -/

/-- The state with one region of the active bank disabled. -/
abbrev State.without (s : State) (i : Nat) : State :=
  { s with ct := { s.ct with activeSet := s.ct.activeSet.without i } }

theorem takesPart_without_self {s : State} {i : Nat} (hi : i < s.ct.activeSet.regions.length)
    (x y : Nat) : takesPart (s.without i) x y i = false := by
  simp [takesPart, CompositionSet.without_region_self hi]

theorem takesPart_without_ne {s : State} {i k : Nat} (hk : k ≠ i) (x y : Nat) :
    takesPart (s.without i) x y k = takesPart s x y k := by
  simp only [takesPart, CompositionSet.without_region_ne _ hk]

theorem visitRegion_without {s : State} {i k : Nat} (hk : k ≠ i) (x y : Nat) (d : Colour) :
    visitRegion (s.without i) x y d k = visitRegion s x y d k := by
  simp only [visitRegion, takesPart_without_ne hk, sourceAt_without hk,
    CompositionSet.without_region_ne _ hk]

/-! ### The whole visit (R67) -/

/-- Regions that do not take part leave the colour. -/
theorem foldl_visitRegion_idle {s : State} {x y : Nat} {l : List Nat}
    (h : ∀ i ∈ l, takesPart s x y i = false) (d : Colour) :
    l.foldl (visitRegion s x y) d = d :=
  (List.foldl_ext _ _ d fun d i hi => visitRegion_idle (h i hi) d).trans (List.foldl_fixed l)

/-- The region that takes part above every other one acts on the pixel as it would be without it: those
visited before it act alike on both sides, and those visited after it do not take part. -/
theorem composePixel_top {s : State} (hbank : s.ct.activeSet.Legal) {x y i : Nat} (hi : i < 16)
    (htop : ∀ k < 16, k ≠ i → takesPart s x y k = true → visitedBefore s.ct.activeSet k i)
    (start : Colour) : composePixel s x y start =
      visitRegion s x y (composePixel (s.without i) x y start) i := by
  have hlength : i < s.ct.activeSet.regions.length := by
    obtain ⟨hlength, -⟩ := hbank
    omega
  obtain ⟨before, after, horder, hbefore, hafter⟩ :=
    visitOrder_split (fun k hk => (hbank.region hk).1) hi
  have hne : ∀ k ∈ after, k ≠ i := fun k hk => by
    rintro rfl
    exact visitedBefore_irrefl _ _ (hafter k hk).2
  have hidle : ∀ k ∈ after, takesPart s x y k = false := fun k hk => by
    obtain ⟨hrange, hlater⟩ := hafter k hk
    exact Bool.eq_false_iff.2 fun htakes =>
      visitedBefore_asymm hlater (htop k hrange (hne k hk) htakes)
  have hidle' : ∀ k ∈ i :: after, takesPart (s.without i) x y k = false :=
    List.forall_mem_cons.2 ⟨takesPart_without_self hlength x y, fun k hk =>
      (takesPart_without_ne (hne k hk) x y).trans (hidle k hk)⟩
  have hbeneath : composePixel (s.without i) x y start = before.foldl (visitRegion s x y) start := by
    rw [composePixel, visitOrder_without hlength, horder, List.foldl_append,
      foldl_visitRegion_idle hidle']
    exact List.foldl_ext _ _ _ fun d k hk =>
      visitRegion_without (ne_of_mem_of_not_mem hk hbefore) x y d
  rw [hbeneath, composePixel, horder, List.foldl_append, List.foldl_cons,
    foldl_visitRegion_idle hidle]

/-- The topmost region, not skipped, is combined with the pixel as it would be without it. -/
theorem composePixel_top_some {s : State} (hbank : s.ct.activeSet.Legal) {x y i a : Nat} {c : Colour}
    (hi : i < 16) (htakes : takesPart s x y i = true)
    (htop : ∀ k < 16, k ≠ i → takesPart s x y k = true → visitedBefore s.ct.activeSet k i)
    (hsource : sourceAt s.ct.activeSet s.sf.showing i x = some (c, a)) (start : Colour) :
    composePixel s x y start = (s.ct.activeSet.region i).combine a
      (composePixel (s.without i) x y start) c :=
  (composePixel_top hbank hi htop start).trans (visitRegion_some htakes hsource _)

/-- Settles O53: by the split of the visit order at the topmost region, and the sources case by case. -/
theorem composedPixels : Obligations.ComposedPixels := by
  unfold Obligations.ComposedPixels
  intro s x y start hbank hstart
  have hlayers : ∀ i < 16, (s.ct.activeSet.region i).layer ≤ 15 := fun i hi => (hbank.region hi).1
  have hmem : ∀ {i}, i ∈ visitOrder s.ct.activeSet ↔ i < 16 := mem_visitOrder hlayers
  refine ⟨?legal, ?takes, ?none, ?top, ?filled⟩
  case legal =>
    exact List.foldlRecOn (motive := Colour.Legal) _ _ hstart fun d hd i hi =>
      visitRegion_legal hbank (hmem.1 hi) hd
  case takes =>
    rintro i - r rfl
    simp [takesPart_iff, Region.covers, and_assoc]
  case none =>
    exact fun hidle => foldl_visitRegion_idle (fun _ hi => hidle _ (hmem.1 hi)) start
  case top =>
    rintro i hi htakes htop r below pixel rfl rfl rfl
    refine ⟨fun hsource => ?_, fun hsource c => ?_, fun hsource offset n hstatus v e hv he => ?_,
      fun hsource hstatus => ?_⟩
    · exact composePixel_top_some hbank hi htakes htop (sourceAt_fill hsource) start
    · obtain ⟨-, -, -, -, -, hop, -⟩ := hbank.region hi
      exact (composePixel_top_some hbank hi htakes htop (sourceAt_input hsource) start).trans
        (Region.combine_sourceless (hop.2 hsource) _ _ _ _)
    · have hentry := sourceAt_present hsource hstatus hv he
      exact ⟨fun hskip => (composePixel_top hbank hi htop start).trans
          (visitRegion_skipped (hentry.trans (if_pos hskip)) _),
        fun hkey hopacity => composePixel_top_some hbank hi htakes htop
          (hentry.trans (if_neg (not_or.2 ⟨hkey, hopacity⟩))) start⟩
    · exact composePixel_top_some hbank hi htakes htop (sourceAt_missing hsource hstatus) start
  case filled =>
    intro i hi htakes hsource hop hmask htop
    exact (composePixel_top_some hbank hi htakes htop (sourceAt_fill hsource) start).trans
      (Region.combine_copy_full hop hmask _ _ _)

end Sys2Proof.Machine
end

section
/-! The cue mask after the cues of an active line (R75). -/

namespace Sys2Proof.Machine

/-! ### One cue -/

/-- The cue decides region `i` at active line `y`: it acts there, hides or shows, and names the region. -/
structure Cue.Decides (c : Cue) (y i : Nat) : Prop where
  enable : c.enable = true
  line : c.line = y
  action : c.action ≠ .notifyCue
  names : c.regions.getLsbD i = true

/-- What the cue makes of the mask at active line `y`. -/
def Cue.step (c : Cue) (y : Nat) (mask : BitVec 16) : BitVec 16 :=
  if c.actsAt y then c.onMask mask else mask

theorem cueMaskAt_eq_foldl (bank : CompositionSet) (y : Nat) (mask : BitVec 16) :
    cueMaskAt bank y mask = (List.range 8).foldl (fun m k => (bank.cue k).step y m) mask := rfl

/-- A cue that decides a region hides it with HIDE and shows it with SHOW. -/
theorem Cue.Decides.step {c : Cue} {y i : Nat} (h : c.Decides y i) (mask : BitVec 16) :
    (c.step y mask).getLsbD i = decide (c.action = .hideRegions) := by
  obtain ⟨henable, hline, haction, hnames⟩ := h
  cases hc : c.action with
  | notifyCue => exact absurd hc haction
  | hideRegions => simp [Cue.step, Cue.actsAt, Cue.onMask, henable, hline, hc, hnames]
  | showRegions => simp [Cue.step, Cue.actsAt, Cue.onMask, henable, hline, hc, hnames]

/-- A cue that does not decide a region leaves it as it was. -/
theorem Cue.step_of_not_decides {c : Cue} {y i : Nat} (h : ¬ c.Decides y i) (mask : BitVec 16) :
    (c.step y mask).getLsbD i = mask.getLsbD i := by
  by_cases hacts : c.enable = true ∧ c.line = y
  · obtain ⟨henable, hline⟩ := hacts
    have hnames (haction : c.action ≠ .notifyCue) : c.regions.getLsbD i = false :=
      Bool.eq_false_iff.2 fun hnames => h ⟨henable, hline, haction, hnames⟩
    cases hc : c.action with
    | notifyCue => simp [Cue.step, Cue.onMask, hc]
    | hideRegions =>
      simp [Cue.step, Cue.actsAt, Cue.onMask, henable, hline, hc, hnames (by simp [hc])]
    | showRegions =>
      have hrange : mask.getLsbD i = true → i < 16 := BitVec.lt_of_getLsbD
      simpa [Cue.step, Cue.actsAt, Cue.onMask, henable, hline, hc, hnames (by simp [hc])] using hrange
  · simp [Cue.step, Cue.actsAt, hacts]

/-! ### The cues of a line -/

/-- Cues that do not decide a region leave it as it was. -/
theorem foldl_step_of_not_decides {bank : CompositionSet} {y i : Nat} {l : List Nat}
    (h : ∀ k ∈ l, ¬ (bank.cue k).Decides y i) (mask : BitVec 16) :
    (l.foldl (fun m k => (bank.cue k).step y m) mask).getLsbD i = mask.getLsbD i :=
  List.foldlRecOn (motive := fun m => m.getLsbD i = mask.getLsbD i) l _ rfl fun m hm k hk =>
    (Cue.step_of_not_decides (h k hk) m).trans hm

/-- The last cue of the line that decides a region decides it for the line. -/
theorem cueMaskAt_of_last {bank : CompositionSet} {y i k : Nat} (hk : k < 8)
    (hdecides : (bank.cue k).Decides y i)
    (hlast : ∀ l < 8, k < l → ¬ (bank.cue l).Decides y i) (mask : BitVec 16) :
    (cueMaskAt bank y mask).getLsbD i = decide ((bank.cue k).action = .hideRegions) := by
  obtain ⟨before, after, heq⟩ := List.append_of_mem (List.mem_range.2 hk)
  obtain ⟨-, htail, -⟩ := List.pairwise_append.1 (heq ▸ List.pairwise_lt_range (n := 8))
  obtain ⟨hlater, -⟩ := List.pairwise_cons.1 htail
  have hrange : ∀ l ∈ after, l < 8 := fun l hl => List.mem_range.1 (by rw [heq]; simp [hl])
  rw [cueMaskAt_eq_foldl, heq, List.foldl_append, List.foldl_cons,
    foldl_step_of_not_decides fun l hl => hlast l (hrange l hl) (hlater l hl)]
  exact hdecides.step _

theorem Cue.not_decides_of_names {c : Cue} {y i : Nat} (h : c.enable = true → c.line = y →
    c.action ≠ .notifyCue → c.regions.getLsbD i = false) : ¬ c.Decides y i :=
  fun ⟨henable, hline, haction, hnames⟩ => by simp [h henable hline haction] at hnames

/-- Settles O54: by the cues in index order, split at the last one that decides the region. -/
theorem lastCueDecides : Obligations.LastCueDecides := by
  unfold Obligations.LastCueDecides
  refine fun bank y mask i _ => ⟨fun k hk henable hline haction hnames hlast => ?_, fun hnone => ?_⟩
  · exact cueMaskAt_of_last hk ⟨henable, hline, haction, hnames⟩
      (fun l hl hkl => Cue.not_decides_of_names (hlast l hl hkl)) mask
  · exact foldl_step_of_not_decides
      (fun k hk => Cue.not_decides_of_names (hnone k (List.mem_range.1 hk))) mask

end Sys2Proof.Machine
end

section
/-! A span fetch burst: its octets enter the filling buffer, and the arbiter grants the fetch's next
burst. -/

namespace Sys2Proof.Machine

/-! ### A run of octets copied -/

@[simp] theorem Memory.readRun_length (m : Memory) (a n : Nat) :
    (Memory.readRun m a n).length = n := by
  simp [Memory.readRun]

theorem Memory.readRun_getD (m : Memory) (a : Nat) {k n : Nat} (h : k < n) :
    (Memory.readRun m a n).getD k 0 = Memory.read m (a + k) := by
  simp [Memory.readRun, List.getD, h]

/-- A run read from one memory and written into another: within the run stands the octet read. -/
theorem Memory.read_writeRun_readRun {m : Memory} (h : Memory.Wf m) (src : Memory)
    (a b n x : Nat) : Memory.read (Memory.writeRun m a (Memory.readRun src b n)) x =
      if a ≤ x ∧ x < a + n then Memory.read src (b + (x - a)) else Memory.read m x := by
  rw [Memory.writeRun_eq, Memory.read_writeMasked _ h, Memory.readRun_length]
  by_cases hin : a ≤ x ∧ x < a + n
  · obtain ⟨hlow, hhigh⟩ := hin
    rw [if_pos ⟨hlow, hhigh, rfl⟩, if_pos ⟨hlow, hhigh⟩, Memory.readRun_getD _ _ (by omega)]
  · rw [if_neg hin, if_neg fun ⟨hlow, hhigh, _⟩ => hin ⟨hlow, hhigh⟩]

/-! ### The arbiter -/

/-- A grant moves requests between the waiting places and the store, and nothing else. -/
theorem OverlayStore.grant_moves (o : OverlayStore) : o.grant =
    { o with busy := o.grant.busy, sfWaiting := o.grant.sfWaiting, ceWaiting := o.grant.ceWaiting } := by
  unfold OverlayStore.grant
  split <;> rfl

/-- A free store goes to the request of the SF, whatever the command engine waits for (R98). -/
theorem OverlayStore.grant_sf_first {o : OverlayStore} {r : BurstRequest} (hfree : o.busy = none)
    (hwaiting : o.sfWaiting = some r) : o.grant.busy = some ⟨.sf, r, false⟩ := by
  simp only [OverlayStore.grant, hfree, hwaiting]

/-! ### The filling buffer and the fetch after a burst (R86) -/

/-- The burst that brings `n` octets is the last one of the span. -/
abbrev SpanJob.EndsWith (j : SpanJob) (n : Nat) : Prop := j.length ≤ j.done + n

/-- The spans still to fetch once `n` octets of the first one have come. -/
def SpanJob.jobsAfter (j : SpanJob) (n : Nat) (rest : List SpanJob) : List SpanJob :=
  if j.EndsWith n then rest else { j with done := j.done + n } :: rest

/-- The buffer with a burst's octets in the span's place. -/
def LineBuffer.filledBy (b : LineBuffer) (j : SpanJob) (octets : List Byte) : LineBuffer :=
  { b with
    octets := Memory.writeRun b.octets (j.offset + j.done) octets
    status := if j.EndsWith octets.length then b.status.set j.region (.present j.offset j.length)
      else b.status }

theorem LineBuffer.filledBy_statusOf {b : LineBuffer} {j : SpanJob}
    (hregion : j.region < b.status.length) (octets : List Byte) (i : Nat) :
    (b.filledBy j octets).statusOf i =
      if i = j.region ∧ j.EndsWith octets.length then .present j.offset j.length
      else b.statusOf i := by
  by_cases hends : j.EndsWith octets.length
  · by_cases hi : i = j.region
    · subst hi
      simp [LineBuffer.statusOf, LineBuffer.filledBy, hends, hregion]
    · simp [LineBuffer.statusOf, LineBuffer.filledBy, hends, hi, Ne.symm hi]
  · simp [LineBuffer.statusOf, LineBuffer.filledBy, hends]

theorem takeSpanOctets_eq {s : State} {list : List Nat} {j : SpanJob} {rest : List SpanJob}
    (hfetch : s.sf.fetch = some ⟨list, j :: rest⟩) (octets : List Byte) :
    takeSpanOctets octets s = s.withSf { s.sf with
      filling := s.sf.filling.filledBy j octets
      fetch := some ⟨list, j.jobsAfter octets.length rest⟩ } := by
  simp only [takeSpanOctets, hfetch, LineBuffer.filledBy, SpanJob.jobsAfter]
  split <;> rfl

theorem Fetch.request_of_cons {f : Fetch} {k : SpanJob} {l : List SpanJob} (h : f.jobs = k :: l) :
    f.request = some k.request := by
  simp [Fetch.request, h]

/-! ### The burst completes (R86, R98, R99) -/

/-- The burst in progress leaves the store, which the arbiter grants with the fetch's next request
waiting. -/
theorem completeSpanBurst_eq {s : State} {list : List Nat} {j : SpanJob} {rest : List SpanJob}
    (hfetch : s.sf.fetch = some ⟨list, j :: rest⟩) (r : BurstRequest) :
    completeSpanBurst ⟨.sf, r, false⟩ s =
      (s.withSf { s.sf with
        filling := s.sf.filling.filledBy j (Memory.readRun s.os.cells r.addr r.len)
        fetch := some ⟨list, j.jobsAfter r.len rest⟩ }).withOs
      (OverlayStore.grant { s.os with
        busy := none
        sfWaiting := Fetch.request ⟨list, j.jobsAfter r.len rest⟩ }) := by
  have htake := takeSpanOctets_eq (s := s.withOs { s.os with busy := none }) hfetch
    (Memory.readRun s.os.cells r.addr r.len)
  rw [Memory.readRun_length] at htake
  simp only [completeSpanBurst, htake]
  rfl

theorem exec_sfBurstComplete {s : State} {r : BurstRequest} {discard : Bool}
    (hbusy : s.os.busy = some ⟨.sf, r, discard⟩) (hstore : r.addr + r.len ≤ 1048576) :
    exec .sfBurstComplete s = .next (completeSpanBurst ⟨.sf, r, discard⟩ s) := by
  have hin : r.inStore = true := decide_eq_true hstore
  simp only [exec, execSfBurstComplete, hbusy, hin, if_true]

/-- Settles O50: the state after the burst, read field by field. -/
theorem spanBurstFillsBuffer : Obligations.SpanBurstFillsBuffer := by
  unfold Obligations.SpanBurstFillsBuffer
  intro s r list j rest hbusy hstore hfetch hwf hregion
  rw [exec_sfBurstComplete hbusy hstore, completeSpanBurst_eq hfetch]
  refine ⟨_, ⟨list, j.jobsAfter r.len rest⟩, rfl, ?only, rfl, ?octets, ?status, rfl, ?granted⟩
  case only => exact congrArg (State.withOs _) (OverlayStore.grant_moves _)
  case octets => exact Memory.read_writeRun_readRun hwf s.os.cells _ r.addr r.len
  case status =>
    simpa using LineBuffer.filledBy_statusOf hregion (Memory.readRun s.os.cells r.addr r.len)
  case granted => exact fun k l hjobs => OverlayStore.grant_sf_first rfl (Fetch.request_of_cons hjobs)

end Sys2Proof.Machine
end

section
/-! What the rows other than the store's own can do to the store, its arbiter, the operation record and the
command in execution: a chain of moves, each of which says what it needs and what it leaves (R86, R97 to
R100, R117, R118, R169, R172). -/

namespace Sys2Proof.Machine

/-! ### The moves -/

/-- A requester ends the operation in the record: marked for its granted burst, or dropped (R117, R118). -/
def OverlayStore.cut (o : OverlayStore) : OverlayStore :=
  match o.op, o.busy with
  | some op, some ⟨.ce, _, _⟩ => { o with op := some { op with ending := true } }
  | some _, _ => { o with op := none, ceWaiting := none }
  | none, _ => o

theorem cutOperation_os (s : State) : (cutOperation s).1.os = s.os.cut := by
  unfold cutOperation OverlayStore.cut
  split <;> simp_all

/-- A granted span burst with its octets to be discarded; any other burst as it is (R87, R90). -/
def Grant.discarded : Grant → Grant
  | ⟨.sf, r, _⟩ => ⟨.sf, r, true⟩
  | g => g

theorem discardSpanBurst_os (s : State) :
    (discardSpanBurst s).os = { s.os with busy := s.os.busy.map Grant.discarded } := by
  obtain ⟨pending, resetLow, now, free, ct, rtu, out, comp, sf, os, mon, mlu, ce, nq⟩ := s
  obtain ⟨cells, clearing, sfWaiting, ceWaiting, busy, op, fences⟩ := os
  rcases busy with _ | ⟨_ | _, r, discard⟩ <;> rfl

theorem stopFetch_os (s : State) : (stopFetch s).os =
    { s.os with sfWaiting := none, busy := s.os.busy.map Grant.discarded } := by
  rw [stopFetch, discardSpanBurst_os]
  rfl

/-- Each line buffer holds octets that one of the two held before, or none. -/
def BuffersFrom (s t : State) : Prop :=
  ∀ b ∈ [t.sf.showing.octets, t.sf.filling.octets],
    b ∈ [([] : Memory), s.sf.showing.octets, s.sf.filling.octets]

theorem BuffersFrom.of_eq {s t : State} (hs : t.sf.showing = s.sf.showing)
    (hf : t.sf.filling = s.sf.filling) : BuffersFrom s t := by
  simp [BuffersFrom, hs, hf]

/-- One move of a row that is neither the store's own nor a reset. -/
inductive StoreMove (s t : State) : Prop
  /-- Nothing of this happens. -/
  | still (hos : t.os = s.os) (hexec : t.ce.exec = s.ce.exec) (hcancel : t.ce.cancel = s.ce.cancel)
  /-- The request of the fetch is replaced, and the arbiter grants. -/
  | fetch (request : Option BurstRequest)
      (hos : t.os = OverlayStore.grant { s.os with sfWaiting := request })
      (hce : t.ce = s.ce)
  /-- The fetch ends. -/
  | stop (hos : t.os = { s.os with sfWaiting := none, busy := s.os.busy.map Grant.discarded })
      (hce : t.ce = s.ce)
  /-- A commit command begins and stays. -/
  | commit (e : InExecution) (hidle : canBegin s = true) (hos : t.os = s.os)
      (hexec : t.ce.exec = some e) (hprogress : e.progress ≠ .store) (hcancel : t.ce.cancel = s.ce.cancel)
  /-- A store command begins and stays. -/
  | store (q : Queued) (p : StoreParams) (hidle : canBegin s = true)
      (hos : t.os = { s.os with op := some (.checking p) }) (hexec : t.ce.exec = some ⟨q, .store⟩)
      (hcancel : t.ce.cancel = s.ce.cancel)
  /-- A command that completes at once has set a fence. -/
  | fence (fences : List Fence) (hidle : canBegin s = true) (hos : t.os = { s.os with fences := fences })
      (hexec : t.ce.exec = s.ce.exec) (hcancel : t.ce.cancel = s.ce.cancel)
  /-- A command other than a store command ends. -/
  | release (hother : ∀ e ∈ s.ce.exec, e.progress ≠ .store) (hos : t.os = s.os)
      (hexec : t.ce.exec = none)
  /-- A CANCEL drops the operation of the store command in execution. -/
  | dropped (hos : t.os = s.os.cut) (hop : t.os.op = none) (hexec : t.ce.exec = none)
  /-- A CANCEL waits for the granted burst of the store command in execution. -/
  | marked (hos : t.os = s.os.cut) (hop : t.os.op ≠ none) (hexec : t.ce.exec = s.ce.exec)
      (hcancel : t.ce.cancel.isSome = true)
  /-- A NODE_RESET. -/
  | reset (hos : t.os = { s.os.cut with fences := Fence.defaults }) (hexec : t.ce.exec = none)

/-- A chain of moves that keeps the octets of the line buffers. -/
inductive StoreRun (s : State) : State → Prop
  | refl : StoreRun s s
  | step {t u : State} (run : StoreRun s t) (move : StoreMove t u) (buffers : BuffersFrom t u) :
      StoreRun s u

theorem StoreRun.trans {s t u : State} (h : StoreRun s t) (k : StoreRun t u) : StoreRun s u := by
  induction k with
  | refl => exact h
  | step _ move buffers ih => exact ih.step move buffers

theorem StoreMove.run {s t : State} (h : StoreMove s t) (hbuffers : BuffersFrom s t) : StoreRun s t :=
  .step .refl h hbuffers

/-- What touches neither the store, nor the buffers, nor the command in execution. -/
theorem StoreRun.same {s t : State} (hos : t.os = s.os) (hsf : t.sf = s.sf)
    (hexec : t.ce.exec = s.ce.exec) (hcancel : t.ce.cancel = s.ce.cancel) : StoreRun s t :=
  (StoreMove.still hos hexec hcancel).run (.of_eq (by rw [hsf]) (by rw [hsf]))

/-- What comes before may touch nothing of this. -/
theorem StoreRun.behind {s t u : State} (k : StoreRun t u) (hos : t.os = s.os) (hsf : t.sf = s.sf)
    (hexec : t.ce.exec = s.ce.exec) (hcancel : t.ce.cancel = s.ce.cancel) : StoreRun s u :=
  (StoreRun.same hos hsf hexec hcancel).trans k

/-- Acts that are each a chain of moves. -/
abbrev StoreActs (acts : List (State → State)) : Prop := ∀ act ∈ acts, ∀ x, StoreRun x (act x)

theorem StoreActs.run {acts : List (State → State)} (h : StoreActs acts) (s : State) :
    StoreRun s (runActs acts s) :=
  runActs_induct (P := StoreRun s) (fun act hact _ hx => hx.trans (h act hact _)) .refl

/-! ### A CANCEL that waits -/

@[simp] theorem answer_cancel (q : Queued) (st : Status) (d : List Byte) (s : State) :
    (answer q st d s).ce.cancel = s.ce.cancel := rfl

@[simp] theorem completeCommand_cancel (st : Status) (d : List Byte) (s : State) :
    (completeCommand st d s).ce.cancel = s.ce.cancel := by
  unfold completeCommand
  split
  · dsimp only
    split_ifs <;> rfl
  · rfl

@[simp] theorem takeNew_cancel (q : Queued) (s : State) : (takeNew q s).ce.cancel = s.ce.cancel := by
  unfold takeNew; split_ifs <;> rfl

@[simp] theorem takeStale_cancel (q : Queued) (s : State) :
    (takeStale q s).ce.cancel = s.ce.cancel := by
  unfold takeStale; split_ifs <;> rfl

@[simp] theorem takeRecent_cancel (q : Queued) (s : State) :
    (takeRecent q s).ce.cancel = s.ce.cancel := by
  unfold takeRecent
  split
  · split_ifs <;> rfl
  · split_ifs
    · rfl
    · simp

@[simp] theorem intakeSequenced_cancel (q : Queued) (s : State) :
    (intakeSequenced q s).ce.cancel = s.ce.cancel := by
  simp only [intakeSequenced]; split <;> (try split_ifs) <;> simp

@[simp] theorem intakeBroadcastCommit_cancel (p : List Byte) (s : State) :
    (intakeBroadcastCommit p s).ce.cancel = s.ce.cancel := by
  unfold intakeBroadcastCommit; split_ifs <;> rfl

theorem assemblyActs_cancel (n : Nat) : ∀ act ∈ assemblyActs n, ∀ x : State × Assembly,
    (act x).1.ce.cancel = x.1.ce.cancel := by
  simp only [assemblyActs, List.mem_cons, List.mem_replicate, forall_eq_or_imp]
  refine ⟨fun x => rfl, fun act ⟨_, h⟩ x => ?_⟩
  subst h
  simp only [insertNext]
  split
  · rename_i c _
    split_ifs
    · cases c <;> rfl
    · rfl
  · rfl

/-! ### Beginning a command -/

/-- What a command leaves of the store when its block has run it: its operation in the record, a fence
set, or nothing. -/
def StoreBegun (s : State) (r : State × Result) : Prop :=
  BuffersFrom s r.1 ∧ r.1.ce.exec = s.ce.exec ∧ r.1.ce.cancel = s.ce.cancel ∧
  match r.2 with
  | .done _ _ => ∃ fences, r.1.os = { s.os with fences := fences }
  | .stays .store => ∃ p, r.1.os = { s.os with op := some (.checking p) }
  | .stays _ => r.1.os = s.os

/-- A command that leaves the store and is done. -/
theorem StoreBegun.done {s t : State} {st : Status} {d : List Byte} (hs : t.sf.showing = s.sf.showing)
    (hf : t.sf.filling = s.sf.filling) (hos : t.os = s.os) (hexec : t.ce.exec = s.ce.exec)
    (hcancel : t.ce.cancel = s.ce.cancel) : StoreBegun s (t, .done st d) :=
  ⟨.of_eq hs hf, hexec, hcancel, s.os.fences, hos⟩

theorem checked_storeBegun {checks : List (Bool × Nat)} {effect : State → State × Result} {s : State}
    (heffect : StoreBegun s (effect s)) : StoreBegun s (checked checks effect s) := by
  unfold checked
  split
  · exact .done rfl rfl rfl rfl rfl
  · exact heffect

theorem whileOpen_storeBegun {run : State → State × Result} {s : State}
    (hrun : StoreBegun s (run s)) : StoreBegun s (whileOpen run s) := by
  unfold whileOpen
  split_ifs
  · exact hrun
  · exact .done rfl rfl rfl rfl rfl

/-- A command that stays for a commit leaves the store. -/
theorem requestCommit_storeBegun (s : State) : StoreBegun s (requestCommit s, .stays .commit) :=
  ⟨.of_eq rfl rfl, rfl, rfl, rfl⟩

/-- A command executed by its block. -/
theorem Command.run_storeBegun (c : Command) (p : List Byte) (s : State) : StoreBegun s (c.run p s) := by
  cases c with
  | setRegion | setPalette | setCue =>
    exact whileOpen_storeBegun (checked_storeBegun (.done rfl rfl rfl rfl rfl))
  | setFence => exact checked_storeBegun ⟨.of_eq rfl rfl, rfl, rfl, _, rfl⟩
  | ovlWrite | ovlFill | ovlCopy | ovlRead => exact ⟨.of_eq rfl rfl, rfl, rfl, _, rfl⟩
  | editOpen =>
    simp only [Command.run, runEditOpen]
    split_ifs
    · exact .done rfl rfl rfl rfl rfl
    · exact .done rfl rfl rfl rfl rfl
    · exact ⟨.of_eq rfl rfl, rfl, rfl, rfl⟩
    · exact .done rfl rfl rfl rfl rfl
  | editClose =>
    simp only [Command.run, runEditClose]
    split_ifs
    · split
      · exact .done rfl rfl rfl rfl rfl
      · exact .done rfl rfl rfl rfl rfl
      · exact requestCommit_storeBegun (s.withCt _)
      · exact .done rfl rfl rfl rfl rfl
    · exact .done rfl rfl rfl rfl rfl
  | commit =>
    simp only [Command.run, runCommit]
    split_ifs
    · exact .done rfl rfl rfl rfl rfl
    · exact requestCommit_storeBegun s
  | readInfo | readStatus | clearCounters => exact .done rfl rfl rfl rfl rfl
  | setNotifyMask | setTiming | readRegion | readPalette | readCue | readFence | readMeasure
  | setReport => exact checked_storeBegun (.done rfl rfl rfl rfl rfl)

theorem runSequenced_storeBegun (code : Byte) (p : List Byte) (s : State) :
    StoreBegun s (runSequenced code p s) := by
  unfold runSequenced
  split
  · exact .done rfl rfl rfl rfl rfl
  · split_ifs
    · exact Command.run_storeBegun _ p s
    · exact .done rfl rfl rfl rfl rfl

theorem beginQueued_storeRun (q : Queued) {s : State} (hidle : canBegin s = true) :
    StoreRun s (beginQueued q s) := by
  unfold beginQueued
  split_ifs
  · obtain ⟨hbuffers, hexec, hcancel, hos⟩ := runSequenced_storeBegun q.code q.payload s
    split <;> rename_i t r hrun <;> rw [hrun] at hbuffers hexec hcancel hos
    · obtain ⟨fences, hos⟩ := hos
      refine StoreMove.run (.fence fences hidle ?_ hexec hcancel) ?_
      · simpa using hos
      · simpa [BuffersFrom] using hbuffers
    · cases r with
      | store =>
        obtain ⟨p, hos⟩ := hos
        exact StoreMove.run (.store q p hidle hos rfl hcancel) hbuffers
      | commit | resetCommit => exact StoreMove.run (.commit _ hidle hos rfl (by simp) hcancel) hbuffers
  · unfold runBroadcastCommit
    split_ifs
    · exact .refl
    · exact .same (by simp) (by simp) (by simp) (by simp)
    · exact StoreMove.run (.commit ⟨q, .commit⟩ hidle rfl rfl (by simp) rfl) (.of_eq rfl rfl)

theorem beginNext_storeRun (s : State) : StoreRun s (beginNext s) := by
  unfold beginNext
  split_ifs with hidle
  · split
    · exact .refl
    · exact .behind (beginQueued_storeRun _ (by exact hidle)) rfl rfl rfl rfl
  · exact .refl

theorem settleActs_storeActs (s : State) : StoreActs (settleActs s) := fun act hact x => by
  rw [List.eq_of_mem_replicate hact]
  exact beginNext_storeRun x

theorem settleEngine_storeRun (s : State) : StoreRun s (settleEngine s) :=
  (settleActs_storeActs s).run s

/-- The engine settles behind what touches nothing of the store. -/
theorem settleEngine_storeRun_after {s t : State} (h : StoreRun s t) : StoreRun s (settleEngine t) :=
  h.trans (settleEngine_storeRun t)

/-! ### Completions -/

/-- A command that ends, none of the store's, leaves none in execution. -/
theorem StoreRun.release {s t : State} (hother : ∀ e ∈ s.ce.exec, e.progress ≠ .store)
    (hos : t.os = s.os) (hsf : t.sf = s.sf) (hexec : t.ce.exec = none) : StoreRun s t :=
  (StoreMove.release hother hos hexec).run (.of_eq (by rw [hsf]) (by rw [hsf]))

theorem exec_not_store {e : InExecution} {s : State} (hexec : s.ce.exec = some e)
    (h : e.progress ≠ .store) : ∀ d ∈ s.ce.exec, d.progress ≠ .store := fun d hd => by
  obtain rfl := Option.some.inj (hexec.symm.trans hd)
  exact h

theorem takeCommitApplied_storeRun (s : State) : StoreRun s (takeCommitApplied s) := by
  unfold takeCommitApplied
  split
  · rename_i he
    exact .release (exec_not_store he (by simp)) (by simp) (by simp) (by simp)
  · rename_i he
    exact .release (exec_not_store he (by simp)) (by simp [openEdit]) (by simp [openEdit]) (by simp)
  · exact .refl

/-- A CANCEL that completes has ended the command in execution, and the engine settles. -/
theorem completeCancel_eq (c : CancelWait) (d : List Byte) (s : State) : ∃ t,
    completeCancel c d s = settleEngine t ∧ t.os = s.os ∧ t.sf = s.sf ∧ t.ce.exec = none ∧
      t.ce.cancel = none :=
  ⟨_, rfl, by simp, by simp, by simp, rfl⟩

theorem completeCancel_storeRun (c : CancelWait) (d : List Byte) {s t : State}
    (hother : ∀ e ∈ s.ce.exec, e.progress ≠ .store) (hos : t.os = s.os) (hsf : t.sf = s.sf) :
    StoreRun s (completeCancel c d t) := by
  obtain ⟨u, heq, huos, husf, hexec, -⟩ := completeCancel_eq c d t
  rw [heq]
  exact settleEngine_storeRun_after (.release hother (huos.trans hos) (husf.trans hsf) hexec)

/-! ### Intake -/

theorem performCancel_storeRun (seq code : Byte) (s : State) :
    StoreRun s (performCancel seq code s) := by
  simp only [performCancel]
  split
  · rename_i he
    exact completeCancel_storeRun _ _ (by simp [show s.ce.exec = none from he]) rfl rfl
  · generalize hcut : cutOperation (s.withCe { s.ce with queue := [] }) = r
    have hkeeps := cutOperation_keeps (s.withCe { s.ce with queue := [] })
    have hos := cutOperation_os (s.withCe { s.ce with queue := [] })
    rw [hcut] at hkeeps hos
    obtain ⟨-, -, -, -, -, -, -, -, hsf, -, -, hce, -⟩ := hkeeps
    have hbuffers : ∀ t : State, t.sf = r.1.sf → BuffersFrom s t := fun t ht =>
      .of_eq (by rw [ht, hsf]; rfl) (by rw [ht, hsf]; rfl)
    split_ifs with hstands
    · have hop : r.1.os.op ≠ none := by
        rw [← hcut] at hstands ⊢
        unfold cutOperation at hstands ⊢
        split <;> simp_all
      exact StoreMove.run (.marked hos hop (by simp [hce]) rfl) (hbuffers _ rfl)
    · obtain ⟨u, heq, huos, husf, hexec, -⟩ := completeCancel_eq
        ⟨seq, code, s.ce.queue.filter Queued.sequenced⟩ (cancelledData s.os.op) r.1
      have hop : r.1.os.op = none := by
        rw [← hcut] at hstands ⊢
        unfold cutOperation at hstands ⊢
        split <;> simp_all
      simp only [State.withCe_os, heq]
      exact settleEngine_storeRun_after (StoreMove.run
        (.dropped (huos.trans hos) (by rw [huos, hop]) hexec) (hbuffers _ husf))
  · rename_i he
    exact completeCancel_storeRun _ _ (exec_not_store he (by simp)) rfl rfl
  · rename_i he
    exact completeCancel_storeRun _ _ (exec_not_store he (by simp)) rfl rfl

theorem performReset_storeRun (s : State) : StoreRun s (performReset s) := by
  refine (StoreMove.reset ?_ ?_).run (.of_eq ?_ ?_)
  · simp [performReset, resetCt, resetBlocks, resetCe, cutOperation_os]
  · simp [performReset, resetCt, resetBlocks, resetCe]
  · simp [performReset, resetCt, resetBlocks, resetCe]
  · simp [performReset, resetCt, resetBlocks, resetCe]

theorem intakeImmediate_storeRun {effect : State → State} (h : ∀ x, StoreRun x (effect x))
    (seq code : Byte) (p : List Byte) (s : State) : StoreRun s (intakeImmediate effect seq code p s) := by
  simp only [intakeImmediate]
  split_ifs
  · exact .behind (h _) rfl rfl rfl rfl
  · exact .same rfl rfl rfl rfl
  · exact .same rfl rfl rfl rfl

theorem intakeAddressed_storeRun (seq code : Byte) (p : List Byte) (s : State) :
    StoreRun s (intakeAddressed seq code p s) := by
  unfold intakeAddressed
  split_ifs
  · exact intakeImmediate_storeRun (performCancel_storeRun _ _) ..
  · exact intakeImmediate_storeRun
      (effect := fun x => fillSlot seq nodeResetCode .ok (performReset x))
      (fun x => (performReset_storeRun x).trans (.same rfl rfl rfl rfl)) ..
  · exact settleEngine_storeRun_after (.same (by simp) (by simp) (by simp) (by simp))

theorem intakeBroadcast_storeRun (code : Byte) (p : List Byte) (s : State) :
    StoreRun s (intakeBroadcast code p s) := by
  unfold intakeBroadcast intakeBroadcastReset
  split_ifs
  · exact performReset_storeRun s
  · exact .same rfl rfl rfl rfl
  · exact settleEngine_storeRun_after (.same (by simp) (by simp) (by simp) (by simp))

theorem handOver_storeRun {seq code : Byte} {p : List Byte} {s t : State}
    (h : handOver seq code p s = .next t) : StoreRun s t := by
  unfold handOver at h
  split_ifs at h <;> cases h
  · exact intakeAddressed_storeRun seq code p s
  · exact .refl

/-! ### Packets and pixel words -/

theorem forwardPacket_storeRun (p : Packet) (s : State) : StoreRun s (forwardPacket p s) :=
  .same (by simp) (by simp) (by simp) (by simp)

theorem takeBroadcast_storeRun (p : Packet) (s : State) : StoreRun s (takeBroadcast p s) := by
  simp only [takeBroadcast]
  split_ifs
  · exact intakeBroadcast_storeRun _ _ s
  · exact .same rfl rfl rfl rfl

theorem takeEnum_storeRun (p : Packet) (s : State) : StoreRun s (takeEnum p s) := by
  simp only [takeEnum]
  split
  · exact forwardPacket_storeRun p s
  · split_ifs <;> exact .same (by simp) (by simp) (by simp [takeEnumeration]) (by simp [takeEnumeration])

theorem takePacket_storeRun (p : Packet) (s : State) : StoreRun s (takePacket p s) := by
  have hdraw : StoreRun s (s.withFree (s.free + 1)) := .same rfl rfl rfl rfl
  simp only [takePacket]
  split_ifs
  · exact .behind (forwardPacket_storeRun p _) rfl rfl rfl rfl
  · exact intakeAddressed_storeRun _ _ _ s
  · simp only [eitherOrder]
    split_ifs
    · exact hdraw.trans ((forwardPacket_storeRun p _).trans (takeBroadcast_storeRun p _))
    · exact hdraw.trans ((takeBroadcast_storeRun p _).trans (forwardPacket_storeRun p _))
  · exact (forwardPacket_storeRun p s).trans (takeBroadcast_storeRun p _)
  · exact takeEnum_storeRun p s
  · exact forwardPacket_storeRun p s

theorem feedOctet_storeRun (s : State) (o : Byte) : StoreRun s (feedOctet s o) := by
  have hsame : ∀ {x : State}, x.os = s.os → x.sf = s.sf → x.ce = s.ce → StoreRun s x :=
    fun hos hsf hce => .same hos hsf (by rw [hce]) (by rw [hce])
  simp only [feedOctet]
  split
  · exact .refl
  · split_ifs
    · exact .refl
    · exact hsame rfl rfl rfl
    · exact hsame rfl rfl rfl
    · exact hsame rfl rfl rfl
    · exact hsame rfl rfl rfl
    · exact .behind (takePacket_storeRun _ (setParse _ s)) rfl rfl rfl rfl
    · exact hsame rfl rfl rfl

theorem feedOctets_storeRun (l : List Byte) (s : State) : StoreRun s (l.foldl feedOctet s) := by
  induction l generalizing s with
  | nil => exact .refl
  | cons o l ih => exact (feedOctet_storeRun s o).trans (ih _)

theorem takePixelWord_storeRun (bits : BitVec 31) (s : State) : StoreRun s (takePixelWord bits s) := by
  simp only [takePixelWord]
  split
  · exact .refl
  · split_ifs
    · exact .behind (feedOctets_storeRun _ (s.withRtu _)) rfl rfl rfl rfl
    · exact .same rfl rfl rfl rfl
    · exact .same rfl rfl rfl rfl

end Sys2Proof.Machine
end

section
/-! Line starts and rows as chains of moves of the store (R75, R80 to R92, R98). -/

namespace Sys2Proof.Machine

/-! ### Span fetches -/

theorem StoreRun.fetch {s t : State} (request : Option BurstRequest)
    (hos : t.os = OverlayStore.grant { s.os with sfWaiting := request }) (hce : t.ce = s.ce)
    (hbuffers : BuffersFrom s t) : StoreRun s t := StoreMove.run (.fetch request hos hce) hbuffers

/-- The arbiter may grant what waits at any time. -/
theorem StoreRun.granted {s t : State} (hos : t.os = s.os.grant) (hce : t.ce = s.ce)
    (hsf : t.sf = s.sf) : StoreRun s t :=
  .fetch s.os.sfWaiting hos hce (.of_eq (by rw [hsf]) (by rw [hsf]))

theorem stopFetch_storeRun (s : State) : StoreRun s (stopFetch s) :=
  StoreMove.run (.stop (stopFetch_os s) (by simp)) (.of_eq (by simp) (by simp))

/-- A fetch that starts empties the filling buffer and asks for its first burst. -/
theorem startFetch_granted_storeRun (t : Nat) (s : State) : StoreRun s (grantStore (startFetch t s)) := by
  refine .fetch (startFetch t s).os.sfWaiting rfl (by simp) ?_
  simp [BuffersFrom, startFetch]

theorem setReady_storeRun (s : State) : StoreRun s (setReady s) :=
  .behind (startFetch_granted_storeRun 0 _) (by simp) (by simp) (by simp) (by simp)

theorem commitNow_storeRun (s : State) : StoreRun s (commitNow s) :=
  .behind ((setReady_storeRun _).trans (takeCommitApplied_storeRun _)) (by simp) (by simp) (by simp)
    (by simp)

theorem spanFrameStart_storeRun (s : State) : StoreRun s (spanFrameStart s) :=
  (stopFetch_storeRun s).trans
    (StoreMove.run (.still rfl rfl rfl) (by simp [BuffersFrom, spanFrameStart]))

/-- The buffers change roles behind the fetch that ends, and underruns are counted. -/
theorem swapped_storeRun (s : State) {f : SpanFetcher} (hshowing : f.showing.octets = s.sf.showing.octets)
    (hfilling : f.filling.octets = s.sf.filling.octets) :
    StoreRun s (countUnderruns (swapBuffers (stopFetch (s.withSf f)))) := by
  have hset : StoreRun s (s.withSf f) :=
    StoreMove.run (.still rfl rfl rfl) (by simp [BuffersFrom, hshowing, hfilling])
  have hswap : ∀ x, StoreRun x (countUnderruns (swapBuffers x)) := fun x =>
    StoreMove.run (.still (by simp) (by simp) (by simp))
      (by simp [BuffersFrom, countUnderruns, swapBuffers])
  exact (hset.trans (stopFetch_storeRun _)).trans (hswap _)

theorem spanLineStart_storeRun (t : Nat) (s : State) : StoreRun s (spanLineStart t s).1 := by
  have hgrant : ∀ x, StoreRun x (grantStore x) := fun x => .granted rfl (by simp) (by simp)
  simp only [spanLineStart]
  split_ifs
  · exact .refl
  · exact .trans (swapped_storeRun s (by rfl) (by rfl)) (startFetch_granted_storeRun _ _)
  · exact .trans (swapped_storeRun s (by rfl) (by rfl)) (hgrant _)
  · exact .trans (swapped_storeRun s (by rfl) (by rfl)) (hgrant _)

/-! ### Output lines -/

theorem activationActs_storeActs (s : State) : StoreActs (activationActs s) := by
  unfold activationActs
  split_ifs
  · refine List.forall_mem_singleton.2 fun x => .behind (setReady_storeRun _) ?_ ?_ ?_ ?_ <;>
    · unfold countEdit
      split_ifs <;> simp [expireEdit]
  · exact List.forall_mem_cons.2 ⟨commitNow_storeRun, settleActs_storeActs s⟩
  · exact List.forall_mem_singleton.2 setReady_storeRun

theorem endParseActs_storeActs (s : State) : StoreActs (endParseActs s) := fun act hact x =>
  .same (by simp [endParseActs_each s act hact x]) (by simp [endParseActs_each s act hact x])
    (by simp [endParseActs_each s act hact x]) (by simp [endParseActs_each s act hact x])

theorem dropActs_storeActs (l : Option InputLine) : StoreActs (dropActs l) := fun act hact x =>
  .same (by simp [dropActs_each l act hact x]) (by simp [dropActs_each l act hact x])
    (by simp [dropActs_each l act hact x]) (by simp [dropActs_each l act hact x])

theorem dueFrameEndActs_storeActs (s : State) : StoreActs (dueFrameEndActs s) := fun act hact x =>
  .same (by simp [dueFrameEndActs_each s act hact x]) (by simp [dueFrameEndActs_each s act hact x])
    (by simp [dueFrameEndActs_each s act hact x]) (by simp [dueFrameEndActs_each s act hact x])

theorem offerLock_storeRun (a b : LockState) (c : LockCause) (s : State) :
    StoreRun s (offerLock a b c s) := .same (by simp) (by simp) (by simp) (by simp)

theorem dueActivationActs_storeActs (s : State) : StoreActs (dueActivationActs s) := by
  unfold dueActivationActs
  split_ifs
  · simp [StoreActs]
  · exact List.forall_mem_cons.2 ⟨fun x => .same rfl rfl rfl rfl, activationActs_storeActs s⟩

theorem lineEventActs_storeActs (activation : Bool) {others : List (State → State)} (s : State)
    (h : StoreActs others) : StoreActs (lineEventActs activation others s).1 := by
  intro act hact
  simp only [lineEventActs, mem_interleaved, List.mem_append] at hact
  obtain (hact | hact) | hact := hact
  · exact dueFrameEndActs_storeActs s act hact
  · split_ifs at hact
    · exact dueActivationActs_storeActs s act hact
    · simp at hact
  · exact h act hact

theorem assembleAmong_storeRun {events : List (State → State)} (words : Nat) (forward : List Packet)
    (s : State) (hevents : StoreActs events) : StoreRun s (assembleAmong events words forward s).1 := by
  simp only [assembleAmong]
  refine runActs_induct (P := fun x : State × Assembly => StoreRun s x.1) (fun act hact x hx => ?_)
    (.same (by simp) (by simp) (by simp) (by simp))
  refine hx.trans ?_
  rcases mem_interleaved.1 hact with hact | hact
  · obtain ⟨e, he, rfl⟩ := List.mem_map.1 hact
    exact hevents e he x.1
  · exact .same (by simp [assemblyActs_each _ act hact x]) (by simp [assemblyActs_each _ act hact x])
      (assemblyActs_exec _ act hact x) (assemblyActs_cancel _ act hact x)

theorem activeLine_storeRun (frameStart : Bool) (starts : List Pixel) (s : State) :
    StoreRun s (activeLine frameStart starts s) :=
  (spanLineStart_storeRun s.out.activeCount s).trans
    (.same (by simp [activeLine]) (by simp [activeLine]) (by simp [activeLine]) (by simp [activeLine]))

theorem outputLineStart_storeRun (kind : LineKind) (frameStart : Bool) (starts : List Pixel)
    (forward : List Packet) (activation : Bool) {others : List (State → State)} (s : State)
    (hothers : StoreActs others) :
    StoreRun s (outputLineStart kind frameStart starts forward activation others s) := by
  have hevents := lineEventActs_storeActs activation s hothers
  have hdrawn : StoreRun s (lineEventActs activation others s).2 :=
    .same (by simp) (by simp) (by simp) (by simp)
  have hsend : ∀ k f w x, StoreRun x (sendPixels k f w x) := fun k f w x =>
    .same (by simp) (by simp) (by simp) (by simp)
  cases kind with
  | active => exact (hothers.run s).trans (activeLine_storeRun _ _ _)
  | mgmt => exact hdrawn.trans ((assembleAmong_storeRun _ _ _ hevents).trans (hsend ..))
  | blank => exact hdrawn.trans ((hevents.run _).trans (hsend ..))

theorem outputFrameStart_storeRun (inputTimed : Bool) (g : Geometry) (period startedAt : Nat)
    (s : State) : StoreRun s (outputFrameStart inputTimed g period startedAt s) := by
  simp only [outputFrameStart]
  have hdiscard : ∀ x, StoreRun x (discardMeasurement x) := fun x =>
    .same (by simp) (by simp) (by simp) (by simp)
  refine .trans (.behind (spanFrameStart_storeRun _) ?_ ?_ ?_ ?_) (hdiscard _) <;>
    split_ifs <;> simp

theorem internalLine_storeRun (i : Nat) {others : List (State → State)} (s : State)
    (hothers : StoreActs others) : StoreRun s (internalLine i others s) :=
  .behind (outputLineStart_storeRun _ _ _ _ _ (s.withOut _) hothers) rfl rfl rfl rfl

theorem startInternalFrame_storeRun (startedAt : Nat) {others : List (State → State)} (s : State)
    (hothers : StoreActs others) : StoreRun s (startInternalFrame startedAt others s) := by
  simp only [startInternalFrame]
  refine .trans ?_ (internalLine_storeRun 0 _ hothers)
  split_ifs
  · exact .behind (outputFrameStart_storeRun _ _ _ _ (s.withFree _)) rfl rfl rfl rfl
  · exact outputFrameStart_storeRun _ _ _ _ s

theorem nextInternalFrame_storeRun (s : State) : StoreRun s (nextInternalFrame s) := by
  simp only [nextInternalFrame]
  generalize (if s.out.running = true then s.out.startedAt + s.out.period * 1000 else s.now) = begins
  split_ifs
  · exact .behind (startInternalFrame_storeRun _ _
      (List.forall_mem_singleton.2 (offerLock_storeRun _ _ _))) (by simp) (by simp) (by simp) (by simp)
  · exact .behind (startInternalFrame_storeRun _ _ (by simp [StoreActs])) rfl rfl rfl rfl
  · exact .behind (startInternalFrame_storeRun _ _ (by simp [StoreActs])) rfl rfl rfl rfl

theorem paceInternal_storeRun (s : State) : StoreRun s (paceInternal s) := by
  simp only [paceInternal]
  split_ifs
  · exact .refl
  · exact nextInternalFrame_storeRun s
  · exact .behind (internalLine_storeRun _ _ (by simp [StoreActs])) rfl rfl rfl rfl

/-! ### Input lines -/

theorem departLocked_storeRun (new : LockState) (cause : LockCause) {errors : List (State → State)}
    (s : State) (herrors : StoreActs errors) : StoreRun s (departLocked new cause errors s) := by
  simp only [departLocked]
  refine .behind (startInternalFrame_storeRun _ _ fun act hact x => ?_) (by simp) (by simp) (by simp)
    (by simp)
  simp only [mem_interleaved, List.mem_append, List.mem_cons, List.not_mem_nil, or_false] at hact
  obtain ((hact | hact) | hact) | rfl | rfl := hact
  · exact herrors act hact x
  · exact dropActs_storeActs _ act hact x
  · exact dropActs_storeActs _ act hact x
  · exact .same rfl rfl rfl rfl
  · exact offerLock_storeRun _ _ _ x

theorem expireFlywheel_storeRun (due : Nat) (s : State) : StoreRun s (expireFlywheel due s) := by
  simp only [expireFlywheel]
  split_ifs
  · exact .behind (departLocked_storeRun _ _ (s.advanceTo due) (by simp [StoreActs])) rfl rfl rfl rfl
  · exact .behind (departLocked_storeRun _ _ ((s.advanceTo due).withRtu _) (by simp [StoreActs])) rfl
      rfl rfl rfl

theorem takeFrameStart_storeRun (ended : Option InputFrame) {errors : List (State → State)} (s : State)
    (herrors : StoreActs errors) : StoreRun s (takeFrameStart ended errors s) := by
  have hsame : ∀ {x t : State}, t.os = x.os → t.sf = x.sf → t.ce = x.ce → StoreRun x t :=
    fun hos hsf hce => .same hos hsf (by rw [hce]) (by rw [hce])
  have hcandidate : ∀ f x, StoreRun x (becomeCandidate f x) := fun f x =>
    hsame (by simp) (by simp) (by simp)
  have hdepart : ∀ f, StoreRun s (becomeCandidate f (departLocked .acquiring .mismatch errors s)) :=
    fun f => (departLocked_storeRun _ _ s herrors).trans (hcandidate f _)
  unfold takeFrameStart
  split
  · exact hsame (by simp) (by simp) (by simp)
  · split
    · split_ifs <;> exact hsame (by simp) (by simp) (by simp)
    · exact hsame (by simp) (by simp) (by simp)
  · split
    · split_ifs
      · exact hsame (by simp) (by simp) (by simp)
      · exact hdepart _
    · exact hdepart _
  · split_ifs
    · split
      · split_ifs <;> exact hsame (by simp) (by simp) (by simp)
      · exact .refl
    · exact hsame rfl rfl rfl

theorem carryLine_storeRun (first : Bool) (a : InputLine) (b : Option InputLine)
    {errors : List (State → State)} (s : State) (herrors : StoreActs errors) :
    StoreRun s (carryLine first a b errors s) := by
  simp only [carryLine]
  refine .trans ?_ (outputLineStart_storeRun _ _ _ _ _ _ herrors)
  split_ifs
  · exact outputFrameStart_storeRun _ _ _ _ s
  · exact .same rfl rfl rfl rfl

theorem followInput_storeRun (a b : Option InputLine) (index : Nat) {errors : List (State → State)}
    (s : State) (herrors : StoreActs errors) : StoreRun s (followInput a b index errors s) := by
  unfold followInput
  split
  · split_ifs
    · exact carryLine_storeRun _ _ _ s herrors
    · exact .behind (carryLine_storeRun _ _ _ (s.withRtu _) herrors) rfl rfl rfl rfl
    · exact herrors.run s
  · exact herrors.run s

theorem takeLineStart_storeRun (bits : BitVec 31) (clock : Nat) (s : State) :
    StoreRun s (takeLineStart bits clock s) := by
  have hended := endParseActs_storeActs s
  have hbegin : StoreRun s (endLine (s.advanceTo clock)) :=
    .same (by simp) (by simp) (by simp) (by simp)
  have hparse : ∀ k l x, StoreRun x (beginParse k (State.withRtu x l)) := fun k l x =>
    .same (by simp) (by simp) (by simp) (by simp)
  simp only [takeLineStart]
  refine StoreRun.trans ?start ((followInput_storeRun _ _ _ _ ?errors).trans (hparse _ _ _))
  case errors =>
    split_ifs
    · simp [StoreActs]
    · exact hended
  case start =>
    split_ifs
    · exact hbegin.trans ((takeFrameStart_storeRun _ _ hended).trans (.same rfl rfl rfl rfl))
    · exact hbegin

/-! ### Rows -/

/-- The rows that act on the store by themselves: resets, the end of the clearing, bursts, the end of
checks. -/
def StoreRow (c : Instr) : Prop :=
  c ∈ [.powerOn, .pinReset, .sfBurstComplete, .ceBurstComplete, .storeChecksComplete,
    .storeClearingDone]

theorem startFirstFrame_storeRun (s : State) : StoreRun s (startFirstFrame s) :=
  startInternalFrame_storeRun _ s (by simp [StoreActs])

/-- Every other row is a chain of moves. -/
theorem exec_storeRun {c : Instr} {s t : State} (hc : ¬ StoreRow c) (h : exec c s = .next t) :
    StoreRun s t := by
  cases c with
  | powerOn | pinReset | sfBurstComplete | ceBurstComplete | storeChecksComplete | storeClearingDone =>
    exact absurd (by simp [StoreRow]) hc
  | resetRelease =>
    simp only [exec, execResetRelease] at h
    split_ifs at h <;> cases h
    · exact .behind (startFirstFrame_storeRun (s.withResetLow false)) rfl rfl rfl rfl
    · exact .refl
  | inputLineStart bits clock => exact whileRunning_rel h .refl (takeLineStart_storeRun bits clock s)
  | inputPixelWord bits => exact whileRunning_rel h .refl (takePixelWord_storeRun bits s)
  | acquireTimerExpiry =>
    simp only [exec, execAcquireTimerExpiry] at h
    split at h
    · exact whileRunning_rel h .refl (.same (by simp) (by simp) (by simp) (by simp))
    · cases h; exact .refl
  | flywheelExpiry =>
    simp only [exec, execFlywheelExpiry] at h
    split at h
    · exact whileRunning_rel h .refl (expireFlywheel_storeRun _ s)
    · cases h; exact .refl
  | internalLineStart => exact whileRunning_rel h .refl (paceInternal_storeRun s)
  | holdoverLimit =>
    simp only [exec, execHoldoverLimit] at h
    split_ifs at h
    · exact whileRunning_rel h .refl (nextInternalFrame_storeRun s)
    · cases h; exact .refl
  | editExpiry =>
    simp only [exec, execEditExpiry] at h
    split_ifs at h
    · exact whileRunning_rel h .refl
        (.same (by simp [expireEdit]) (by simp [expireEdit]) (by simp [expireEdit]) (by simp [expireEdit]))
    · cases h; exact .refl
  | reportCountdown region =>
    simp only [exec, execReportCountdown] at h
    split at h
    · split_ifs at h
      · exact whileRunning_rel h .refl (.same (by simp) (by simp) (by simp) (by simp))
      · cases h; exact .refl
    · cases h; exact .refl
  | commandBegin => exact whileRunning_rel h .refl (settleEngine_storeRun s)
  | broadcastCommit p =>
    simp only [exec, execBroadcastCommit] at h
    split_ifs at h <;> cases h
    · exact intakeBroadcast_storeRun _ p s
    · exact .refl
  | nodeReset broadcast seq p =>
    simp only [exec, execNodeReset] at h
    split_ifs at h
    · cases h; exact intakeBroadcast_storeRun _ p s
    · cases h; exact .refl
    · exact handOver_storeRun h
  | unknownCode | readInfo | readStatus | clearCounters | setNotifyMask | setTiming | editOpen
  | editCloseDiscard | editCloseKeep | editCloseCommit | sequencedCommit | setRegion | setPalette
  | setCue | readRegion | readPalette | readCue | ovlWrite | ovlFill | ovlCopy | ovlRead | setFence
  | readFence | readMeasure | setReport | cancel => exact handOver_storeRun h

/-! ### What a chain of moves keeps -/

@[simp] theorem OverlayStore.grant_cells (o : OverlayStore) : o.grant.cells = o.cells := by
  rw [OverlayStore.grant_moves]

@[simp] theorem OverlayStore.grant_clearing (o : OverlayStore) : o.grant.clearing = o.clearing := by
  rw [OverlayStore.grant_moves]

@[simp] theorem OverlayStore.cut_keeps (o : OverlayStore) :
    o.cut.cells = o.cells ∧ o.cut.clearing = o.clearing ∧ o.cut.fences = o.fences ∧
      o.cut.busy = o.busy ∧ o.cut.sfWaiting = o.sfWaiting := by
  unfold OverlayStore.cut
  split <;> simp

/-- What every move keeps a chain keeps. -/
theorem StoreRun.induct {P : State → Prop} {s t : State} (h : StoreRun s t)
    (hstep : ∀ {x y : State}, StoreMove x y → BuffersFrom x y → P x → P y) (hs : P s) : P t := by
  induction h with
  | refl => exact hs
  | step _ move buffers ih => exact hstep move buffers ih

/-- No move writes an octet of the store or ends its clearing (R97, R109). -/
theorem StoreMove.cells {s t : State} (h : StoreMove s t) :
    t.os.cells = s.os.cells ∧ t.os.clearing = s.os.clearing := by
  cases h <;> simp [*]

theorem StoreRun.cells {s t : State} (h : StoreRun s t) :
    t.os.cells = s.os.cells ∧ t.os.clearing = s.os.clearing :=
  h.induct (P := fun x => x.os.cells = s.os.cells ∧ x.os.clearing = s.os.clearing)
    (fun move _ ⟨hcells, hclearing⟩ => ⟨move.cells.1.trans hcells, move.cells.2.trans hclearing⟩)
    ⟨rfl, rfl⟩

end Sys2Proof.Machine
end

section
/-! The operation record, the arbiter and the command in execution agree after every row (R98, R100, R117,
R118, R172). -/

namespace Sys2Proof.Machine

/-! ### The law by its parts -/

/-- The law less what it says of the arbiter's waiting requests: it stands while a burst completes. -/
structure RecordCore (s : State) : Prop where
  empty : s.os.op = none → s.os.ceWaiting = none ∧ ceBusy s = false
  checking : ∀ op ∈ s.os.op, op.running = false →
    op.ending = false ∧ s.os.ceWaiting = none ∧ ceBusy s = false
  running : ∀ op ∈ s.os.op, op.running = true → s.os.ceWaiting.isSome ≠ ceBusy s
  ending : ∀ op ∈ s.os.op, op.ending = true →
    ceBusy s = true ∧ (s.ce.exec = none ∨ s.ce.cancel.isSome = true)
  standing : ∀ op ∈ s.os.op, op.ending = false → s.ce.exec.isSome = true
  store : ∀ e ∈ s.ce.exec, e.progress = .store ↔ s.os.op.isSome = true

/-- Nothing waits while the store is free (R98). -/
def OverlayStore.Arbited (o : OverlayStore) : Prop :=
  o.busy = none → o.sfWaiting = none ∧ o.ceWaiting = none

theorem recordLaw_iff {s : State} : RecordLaw s ↔ RecordCore s ∧ s.os.Arbited := by
  refine ⟨fun ⟨hempty, hchecking, hrunning, hending, hstanding, hstore, harbited⟩ => ?_,
    fun ⟨⟨hempty, hchecking, hrunning, hending, hstanding, hstore⟩, harbited⟩ => ?_⟩
  · exact ⟨⟨hempty, hchecking, hrunning, hending, hstanding, hstore⟩, harbited⟩
  · exact ⟨hempty, hchecking, hrunning, hending, hstanding, hstore, harbited⟩

theorem ceBusy_congr {s t : State} (h : t.os.busy = s.os.busy) : ceBusy t = ceBusy s := by
  rw [ceBusy, h]; rfl

/-- The law looks at the store, at the command in execution and at whether a CANCEL waits. -/
theorem RecordCore.of_same {s t : State} (h : RecordCore s) (hos : t.os = s.os)
    (hexec : t.ce.exec = s.ce.exec) (hcancel : t.ce.cancel.isSome = s.ce.cancel.isSome) :
    RecordCore t := by
  obtain ⟨hempty, hchecking, hrunning, hending, hstanding, hstore⟩ := h
  have hbusy := ceBusy_congr (congrArg OverlayStore.busy hos)
  constructor <;> simpa only [hos, hexec, hcancel, hbusy]

/-- With the record empty, no burst of the engine and no store command in execution the law stands. -/
theorem recordCore_empty {s : State} (hop : s.os.op = none) (hwaiting : s.os.ceWaiting = none)
    (hbusy : ceBusy s = false) (hexec : ∀ e ∈ s.ce.exec, e.progress ≠ .store) : RecordCore s where
  empty _ := ⟨hwaiting, hbusy⟩
  checking := by simp [hop]
  running := by simp [hop]
  ending := by simp [hop]
  standing := by simp [hop]
  store e he := by simp [hop, hexec e he]

/-- With no operation in the record the engine has no burst. -/
theorem RecordCore.idle {s : State} (h : RecordCore s) (hidle : canBegin s = true) :
    s.ce.exec = none ∧ s.os.op = none ∧ s.os.ceWaiting = none ∧ ceBusy s = false := by
  simp only [canBegin, Bool.and_eq_true, Option.isNone_iff_eq_none] at hidle
  obtain ⟨hexec, hop⟩ := hidle
  exact ⟨hexec, hop, h.empty hop⟩

/-! ### The arbiter -/

theorem OverlayStore.grant_arbited (o : OverlayStore) : o.grant.Arbited := by
  obtain ⟨cells, clearing, sfWaiting, ceWaiting, busy, op, fences⟩ := o
  rcases busy with _ | g <;> rcases sfWaiting with _ | r <;> rcases ceWaiting with _ | q <;>
    simp [OverlayStore.Arbited, OverlayStore.grant]

/-- A grant leaves the engine's request waiting or its burst in progress as it is, or turns the one into
the other. -/
theorem OverlayStore.grant_cases (o : OverlayStore) :
    o.grant.ceWaiting = o.ceWaiting ∧ (o.grant.busy = o.busy ∨
        o.busy = none ∧ ∃ r, o.grant.busy = some ⟨.sf, r, false⟩) ∨
    ∃ r, o.ceWaiting = some r ∧ o.busy = none ∧ o.grant.ceWaiting = none ∧
      o.grant.busy = some ⟨.ce, r, false⟩ := by
  obtain ⟨cells, clearing, sfWaiting, ceWaiting, busy, op, fences⟩ := o
  rcases busy with _ | g <;> rcases sfWaiting with _ | r <;> rcases ceWaiting with _ | q <;>
    simp [OverlayStore.grant]

/-- A grant keeps the law, and brings what it says of waiting requests (R98). -/
theorem RecordCore.grant {s t : State} (h : RecordCore s) (hos : t.os = s.os.grant)
    (hexec : t.ce.exec = s.ce.exec) (hcancel : t.ce.cancel.isSome = s.ce.cancel.isSome) :
    RecordCore t := by
  obtain ⟨hempty, hchecking, hrunning, hending, hstanding, hstore⟩ := h
  have hop : t.os.op = s.os.op := by rw [hos, OverlayStore.grant_op]
  have hcases := s.os.grant_cases
  rw [← hos] at hcases
  obtain ⟨hwaiting, hbusy⟩ | ⟨r, hwas, hfree, hwaiting, hbusy⟩ := hcases
  · have hbusy : ceBusy t = ceBusy s := by
      obtain hbusy | ⟨hfree, r, hbusy⟩ := hbusy
      · exact ceBusy_congr hbusy
      · simp [ceBusy, hfree, hbusy]
    constructor <;> simpa only [hop, hwaiting, hbusy, hexec, hcancel]
  · have hbefore : ceBusy s = false := by simp [ceBusy, hfree]
    have hafter : ceBusy t = true := by simp [ceBusy, hbusy]
    constructor
    · exact fun hnone => absurd (hempty (hop ▸ hnone)) (by simp [hwas])
    · exact fun op hmem hrun => absurd (hchecking op (hop ▸ hmem) hrun) (by simp [hwas])
    · simp [hwaiting, hafter]
    · exact fun op hmem hend => absurd (hending op (hop ▸ hmem) hend) (by simp [hbefore])
    · simpa only [hop, hexec]
    · simpa only [hop, hexec]

/-! ### The moves keep the law -/

theorem ceBusy_discarded {s t : State} (h : t.os.busy = s.os.busy.map Grant.discarded) :
    ceBusy t = ceBusy s := by
  rw [ceBusy, ceBusy, h]
  rcases s.os.busy with _ | ⟨_ | _, r, discard⟩ <;> rfl

/-- A burst of the CE is in progress exactly in a grant of the CE. -/
theorem ceBusy_eq_true {s : State} : ceBusy s = true ↔ ∃ r d, s.os.busy = some ⟨.ce, r, d⟩ := by
  unfold ceBusy
  rcases s.os.busy with _ | ⟨_ | _, r, discard⟩ <;> simp

/-- The operation ended at once leaves an empty record; one with a granted burst stands, marked. -/
theorem OverlayStore.cut_cases (s : State) :
    (s.os.op = none ∧ s.os.cut = s.os) ∨
    (ceBusy s = false ∧ s.os.cut = { s.os with op := none, ceWaiting := none }) ∨
    ∃ op, s.os.op = some op ∧ ceBusy s = true ∧
      s.os.cut = { s.os with op := some { op with ending := true } } := by
  unfold OverlayStore.cut ceBusy
  rcases hop : s.os.op with _ | op <;> rcases hbusy : s.os.busy with _ | ⟨_ | _, r, discard⟩ <;>
    simp [hbusy]

/-- An operation that is ended keeps the law, if no command waits for it or a CANCEL does. -/
theorem RecordCore.cut {s t : State} (h : RecordCore s) (hop : t.os.op = s.os.cut.op)
    (hwaiting : t.os.ceWaiting = s.os.cut.ceWaiting) (hbusy : t.os.busy = s.os.busy)
    (hexec : t.ce.exec = none ∨
      t.ce.exec = s.ce.exec ∧ t.ce.cancel.isSome = true ∧ t.os.op ≠ none) :
    RecordCore t := by
  have hburst : ceBusy t = ceBusy s := ceBusy_congr hbusy
  have hnone : t.os.op = none → t.os.ceWaiting = none → ceBusy t = false → RecordCore t :=
    fun hop hwaiting hfree => recordCore_empty hop hwaiting hfree (by
      obtain hexec | ⟨-, -, hstands⟩ := hexec
      · simp [hexec]
      · exact absurd hop hstands)
  obtain ⟨hempty, hcut⟩ | ⟨hfree, hcut⟩ | ⟨op, hstands, hburst', hcut⟩ := OverlayStore.cut_cases s
  · rw [hcut] at hop hwaiting
    obtain ⟨hwas, hfree⟩ := h.empty hempty
    exact hnone (hop.trans hempty) (hwaiting.trans hwas) (hburst.trans hfree)
  · rw [hcut] at hop hwaiting
    exact hnone hop hwaiting (hburst.trans hfree)
  · rw [hcut] at hop hwaiting
    have hmem : op ∈ s.os.op := hstands
    have hrun : op.running = true := by
      by_contra hcheck
      exact absurd (h.checking op hmem (by simpa using hcheck)) (by simp [hburst'])
    constructor
    · simp [hop]
    · simp [hop, hrun]
    · have := h.running op hmem hrun
      simpa [hop, hwaiting, hburst] using fun _ => this
    · simp only [hop, Option.mem_some_iff, forall_eq', forall_const]
      exact ⟨hburst.trans hburst', hexec.imp_right fun ⟨_, hcancel, _⟩ => hcancel⟩
    · simp [hop]
    · obtain hexec | ⟨hexec, -⟩ := hexec
      · simp [hexec]
      · simpa [hexec, hop, hstands] using h.store

/-- Every move keeps the record and the command in execution in agreement. -/
theorem StoreMove.recordCore {s t : State} (h : StoreMove s t) (hs : RecordCore s) : RecordCore t := by
  cases h with
  | still hos hexec hcancel => exact hs.of_same hos hexec (by rw [hcancel])
  | fetch request hos hce =>
    have hrequest : RecordCore (s.withOs { s.os with sfWaiting := request }) := by
      obtain ⟨hempty, hchecking, hrunning, hending, hstanding, hstore⟩ := hs
      exact ⟨hempty, hchecking, hrunning, hending, hstanding, hstore⟩
    exact hrequest.grant hos (by rw [hce]; rfl) (by rw [hce]; rfl)
  | stop hos hce =>
    have hbusy : ceBusy t = ceBusy s := ceBusy_discarded (by rw [hos])
    obtain ⟨hempty, hchecking, hrunning, hending, hstanding, hstore⟩ := hs
    constructor <;> simpa only [hos, hce, hbusy]
  | commit e hidle hos hexec hprogress hcancel =>
    obtain ⟨-, hop, hwaiting, hbusy⟩ := hs.idle hidle
    refine recordCore_empty (hos ▸ hop) (hos ▸ hwaiting) ?_ (exec_not_store hexec hprogress)
    rw [ceBusy_congr (congrArg OverlayStore.busy hos), hbusy]
  | store q p hidle hos hexec hcancel =>
    obtain ⟨-, hop, hwaiting, hbusy⟩ := hs.idle hidle
    have hbusy : ceBusy t = false := by rw [ceBusy_congr (s := s) (by rw [hos]), hbusy]
    constructor <;> simp [hos, hexec, hwaiting, hbusy, StoreOp.checking]
  | fence fences hidle hos hexec hcancel =>
    obtain ⟨hnone, hop, hwaiting, hbusy⟩ := hs.idle hidle
    refine recordCore_empty (by rw [hos]; exact hop) (by rw [hos]; exact hwaiting) ?_
      (by simp [hexec, hnone])
    rw [ceBusy_congr (s := s) (by rw [hos]), hbusy]
  | release hother hos hexec =>
    obtain ⟨hempty, hchecking, hrunning, hending, hstanding, hstore⟩ := hs
    have hbusy := ceBusy_congr (congrArg OverlayStore.busy hos)
    refine ⟨by simpa only [hos, hbusy], by simpa only [hos, hbusy], by simpa only [hos, hbusy], ?_, ?_,
      by simp [hexec]⟩
    · intro op hop hend
      rw [hos] at hop
      exact ⟨hbusy.trans (hending op hop hend).1, .inl hexec⟩
    · intro op hop hend
      rw [hos] at hop
      obtain ⟨e, he⟩ := Option.isSome_iff_exists.1 (hstanding op hop hend)
      exact absurd ((hstore e he).2 (Option.isSome_of_mem hop)) (hother e he)
  | dropped hos hop hexec =>
    exact hs.cut (by rw [hos]) (by rw [hos]) (by simp [hos]) (.inl hexec)
  | marked hos hop hexec hcancel =>
    exact hs.cut (by rw [hos]) (by rw [hos]) (by simp [hos])
      (.inr ⟨hexec, hcancel, hop⟩)
  | reset hos hexec =>
    exact hs.cut (by rw [hos]) (by rw [hos]) (by simp [hos]) (.inl hexec)


/-- Every move leaves nothing waiting while the store is free (R98). -/
theorem StoreMove.arbited {s t : State} (h : StoreMove s t) (hs : s.os.Arbited) : t.os.Arbited := by
  have hcut : s.os.cut.Arbited := by
    obtain ⟨-, hcut⟩ | ⟨-, hcut⟩ | ⟨op, -, -, hcut⟩ := OverlayStore.cut_cases s <;> rw [hcut]
    · exact hs
    · exact fun hfree => ⟨(hs hfree).1, rfl⟩
    · exact hs
  cases h with
  | still hos | commit _ _ hos | release _ hos => rw [hos]; exact hs
  | fetch request hos => rw [hos]; exact OverlayStore.grant_arbited _
  | stop hos => rw [hos]; exact fun hfree => ⟨rfl, (hs (by simpa using hfree)).2⟩
  | store _ _ _ hos | fence _ _ hos => rw [hos]; exact hs
  | dropped hos | marked hos | reset hos => rw [hos]; exact hcut

theorem StoreRun.recordCore {s t : State} (h : StoreRun s t) (hs : RecordCore s) : RecordCore t :=
  h.induct (fun move _ => move.recordCore) hs

/-- A chain of moves keeps the law. -/
theorem StoreRun.recordLaw {s t : State} (h : StoreRun s t) (hs : RecordLaw s) : RecordLaw t := by
  obtain ⟨hcore, harbited⟩ := recordLaw_iff.1 hs
  exact recordLaw_iff.2 ⟨h.recordCore hcore,
    h.induct (P := fun x => x.os.Arbited) (fun move _ => move.arbited) harbited⟩

/-- After a grant nothing is left to show of the arbiter. -/
theorem RecordCore.granted {s : State} (h : RecordCore s) : RecordLaw (grantStore s) :=
  recordLaw_iff.2 ⟨h.grant rfl (by simp) (by simp), s.os.grant_arbited⟩

/-! ### Store operations -/

/-- Only the operation of a store command is in progress, its burst done and none requested. -/
structure BetweenBursts (s : State) : Prop where
  waiting : s.os.ceWaiting = none
  busy : ceBusy s = false
  exec : ∃ q, s.ce.exec = some ⟨q, .store⟩

/-- A completed store command leaves the record empty. -/
theorem emptied_core {s : State} (hwaiting : s.os.ceWaiting = none) (hbusy : ceBusy s = false)
    (st : Status) (d : List Byte) : RecordCore (settleEngine (completeCommand st d (emptyRecord s))) := by
  refine (settleEngine_storeRun _).recordCore (recordCore_empty ?_ ?_ ?_ (by simp))
  · simp [emptyRecord]
  · simpa [emptyRecord] using hwaiting
  · rw [ceBusy_congr (s := s) (by simp [emptyRecord]), hbusy]

@[simp] theorem StoreOp.settled_keeps (op : StoreOp) :
    op.settled.params = op.params ∧ op.settled.running = op.running ∧ op.settled.held = op.held ∧
      op.settled.written = op.written ∧ op.settled.data = op.data ∧ op.settled.fences = op.fences ∧
      op.settled.ending = op.ending := by
  obtain ⟨k, c, h⟩ := op.settled_moves
  simp [h]

/-- A RUNNING operation whose next burst waits. -/
theorem recordCore_requesting {s : State} {op : StoreOp} {r : BurstRequest} {q : Queued}
    (hop : s.os.op = some op) (hrun : op.running = true) (hend : op.ending = false)
    (hwaiting : s.os.ceWaiting = some r) (hbusy : ceBusy s = false)
    (hexec : s.ce.exec = some ⟨q, .store⟩) : RecordCore s := by
  constructor <;> simp [hop, hrun, hend, hwaiting, hbusy, hexec]

theorem advanceOperation_core {op : StoreOp} {s : State} (h : BetweenBursts s)
    (hrun : op.running = true) (hend : op.ending = false) : RecordCore (advanceOperation op s) := by
  obtain ⟨hwaiting, hbusy, q, hexec⟩ := h
  simp only [advanceOperation]
  split
  · exact recordCore_requesting rfl (by simpa using hrun) (by simpa using hend) rfl hbusy hexec
  · exact emptied_core hwaiting hbusy _ _

theorem endOperation_core (op : StoreOp) {s : State} (hwaiting : s.os.ceWaiting = none)
    (hbusy : ceBusy s = false) (hcancel : s.ce.exec = none ∨ s.ce.cancel.isSome = true) :
    RecordCore (endOperation op s) := by
  have hempty : ∀ t : State, t.os = (emptyRecord s).os → t.ce.exec = none → RecordCore (settleEngine t) :=
    fun t hos hexec => (settleEngine_storeRun _).recordCore (recordCore_empty (by rw [hos]; rfl)
      (by rw [hos]; exact hwaiting)
      ((ceBusy_congr (s := s) (by rw [hos]; rfl)).trans hbusy) (by simp [hexec]))
  simp only [endOperation]
  split
  · obtain ⟨t, heq, hos, -, hexec, -⟩ := completeCancel_eq _ (cancelledData (some op)) (emptyRecord s)
    rw [heq]
    exact hempty t hos hexec
  · rename_i hnone
    have hexec : s.ce.exec = none := hcancel.resolve_right (by simp_all)
    exact hempty _ rfl hexec

/-- With a granted burst of the engine the operation is RUNNING, and nothing else of it is requested. -/
theorem RecordLaw.granted {s : State} (h : RecordLaw s) (hbusy : ceBusy s = true) :
    ∃ op, s.os.op = some op ∧ op.running = true ∧ s.os.ceWaiting = none ∧
      (op.ending = true → s.ce.exec = none ∨ s.ce.cancel.isSome = true) ∧
      (op.ending = false → ∃ q, s.ce.exec = some ⟨q, .store⟩) := by
  obtain ⟨⟨hempty, hchecking, hrunning, hending, hstanding, hstore⟩, -⟩ := recordLaw_iff.1 h
  cases hop : s.os.op with
  | none => exact absurd (hempty hop) (by simp [hbusy])
  | some op =>
    have hrun : op.running = true := by
      by_contra hcheck
      exact absurd (hchecking op hop (by simpa using hcheck)) (by simp [hbusy])
    refine ⟨op, rfl, hrun, ?_, fun hend => (hending op hop hend).2, fun hend => ?_⟩
    · simpa [hbusy] using hrunning op hop hrun
    · obtain ⟨⟨q, p⟩, he⟩ := Option.isSome_iff_exists.1 (hstanding op hop hend)
      obtain rfl : p = .store := (hstore _ he).2 (by simp [hop])
      exact ⟨q, he⟩

theorem completeChecks_recordLaw {op : StoreOp} {s : State} (h : RecordLaw s) (hop : s.os.op = some op)
    (hrun : op.running = false) : RecordLaw (completeChecks op s) := by
  obtain ⟨hcore, harbited⟩ := recordLaw_iff.1 h
  obtain ⟨hend, hwaiting, hbusy⟩ := hcore.checking op hop hrun
  obtain ⟨⟨q, p⟩, he⟩ := Option.isSome_iff_exists.1 (hcore.standing op hop hend)
  obtain rfl : p = .store := (hcore.store _ he).2 (by simp [hop])
  unfold completeChecks
  split
  · refine recordLaw_iff.2 ⟨emptied_core hwaiting hbusy _ _, ?_⟩
    refine (settleEngine_storeRun _).induct (P := fun x => x.os.Arbited) (fun move _ => move.arbited) ?_
    rw [(completeCommand_keeps _ _ _).2.2.2.2.2.2.2.2.2.1]
    exact harbited
  · exact (advanceOperation_core ⟨hwaiting, hbusy, q, he⟩ (by rfl) (by exact hend)).granted

theorem completeEngineBurst_recordLaw {s : State} {r : BurstRequest} {d : Bool} (h : RecordLaw s)
    (hbusy : s.os.busy = some ⟨.ce, r, d⟩) : RecordLaw (completeEngineBurst ⟨.ce, r, d⟩ s) := by
  obtain ⟨op, hop, hrun, hwaiting, hended, hstands⟩ := h.granted (ceBusy_eq_true.2 ⟨r, d, hbusy⟩)
  refine RecordCore.granted ?_
  simp only [State.withOs_os, hop]
  split_ifs
  · simp only [completeWrite]
    split_ifs with hend
    · exact endOperation_core _ hwaiting rfl (hended hend)
    · exact advanceOperation_core ⟨hwaiting, rfl, hstands (by simpa using hend)⟩ hrun (by simpa using hend)
  · simp only [completeRead]
    split_ifs with hend hcopy
    · exact endOperation_core _ hwaiting rfl (hended hend)
    · obtain ⟨q, hexec⟩ := hstands (by simpa using hend)
      exact recordCore_requesting rfl hrun (by simpa using hend) rfl rfl hexec
    · exact advanceOperation_core ⟨hwaiting, rfl, hstands (by simpa using hend)⟩ hrun (by simpa using hend)

/-! ### Span bursts -/

theorem completeSpanBurst_os (g : Grant) (s : State) : ∃ request,
    (completeSpanBurst g s).os = OverlayStore.grant { s.os with busy := none, sfWaiting := request } := by
  simp only [completeSpanBurst]
  split_ifs
  · exact ⟨s.os.sfWaiting, rfl⟩
  · exact ⟨_, by simp [grantStore, requestSpan]; rfl⟩

theorem completeSpanBurst_recordLaw {s : State} {r : BurstRequest} {d : Bool} (h : RecordLaw s)
    (hbusy : s.os.busy = some ⟨.sf, r, d⟩) : RecordLaw (completeSpanBurst ⟨.sf, r, d⟩ s) := by
  obtain ⟨⟨hempty, hchecking, hrunning, hending, hstanding, hstore⟩, -⟩ := recordLaw_iff.1 h
  obtain ⟨request, hos⟩ := completeSpanBurst_os ⟨.sf, r, d⟩ s
  have hfree : ceBusy (s.withOs { s.os with busy := none, sfWaiting := request }) = ceBusy s := by
    simp [ceBusy, hbusy]
  have hcore : RecordCore (s.withOs { s.os with busy := none, sfWaiting := request }) := by
    constructor <;> simpa only [State.withOs_os, State.withOs_ce, hfree]
  refine recordLaw_iff.2 ⟨hcore.grant hos (by simp) (by simp), ?_⟩
  rw [hos]
  exact OverlayStore.grant_arbited _

/-! ### Rows -/

/-- With the store as a reset leaves it and no command in execution the law stands. -/
theorem recordLaw_reset {s : State} (hop : s.os.op = none) (hce : s.os.ceWaiting = none)
    (hsf : s.os.sfWaiting = none) (hbusy : s.os.busy = none) (hexec : s.ce.exec = none) : RecordLaw s :=
  recordLaw_iff.2 ⟨recordCore_empty hop hce (by simp [ceBusy, hbusy]) (by simp [hexec]),
    fun _ => ⟨hsf, hce⟩⟩

/-- Every row keeps the operation record, the arbiter and the command in execution in agreement. -/
theorem exec_recordLaw {c : Instr} {s t : State} (h : RecordLaw s) (hnext : exec c s = .next t) :
    RecordLaw t := by
  by_cases hrow : StoreRow c
  swap
  · exact (exec_storeRun hrow hnext).recordLaw h
  simp only [StoreRow, List.mem_cons, List.not_mem_nil, or_false] at hrow
  obtain rfl | rfl | rfl | rfl | rfl | rfl := hrow
  · cases hnext
    exact (startFirstFrame_storeRun _).recordLaw (recordLaw_reset rfl rfl rfl rfl rfl)
  · cases hnext
    exact recordLaw_reset rfl rfl rfl rfl rfl
  · simp only [exec, execSfBurstComplete] at hnext
    split at hnext
    · rename_i hbusy
      split_ifs at hnext
      cases hnext
      exact completeSpanBurst_recordLaw h hbusy
    · cases hnext; exact h
  · simp only [exec, execCeBurstComplete] at hnext
    split at hnext
    · rename_i hbusy
      split_ifs at hnext
      cases hnext
      exact completeEngineBurst_recordLaw h hbusy
    · cases hnext; exact h
  · simp only [exec, execStoreChecksComplete] at hnext
    split at hnext
    · rename_i op hop
      split_ifs at hnext with hrun <;> cases hnext
      · exact h
      · exact completeChecks_recordLaw h hop (by simpa using hrun)
    · cases hnext; exact h
  · cases hnext; exact h

/-- Settles O7: a step runs one row, and every row keeps the law. -/
theorem stepKeepsOperationRecord : Obligations.StepKeepsOperationRecord := by
  unfold Obligations.StepKeepsOperationRecord
  intro s t h hnext
  unfold step at hnext
  split at hnext
  · cases hnext; exact h
  · rename_i c rest _
    exact exec_recordLaw (s := { s with pending := rest }) h hnext

end Sys2Proof.Machine
end

section
/-! The fences of a RUNNING operation, its bursts, and the canonical form of the store after every row (R96,
R103, R104, R107, R109, R118). -/

namespace Sys2Proof.Machine

/-! ### The octets of a step -/

/-- A step lies in one row of the operation (R109, R111, R114). -/
theorem StoreParams.cut_bounds (p : StoreParams) {n : Nat} (h : n < p.steps) :
    (p.cut n).1 < p.height ∧ 0 < (p.cut n).2.2 ∧ (p.cut n).2.1 + (p.cut n).2.2 ≤ p.width := by
  have hpos : 0 < burstsOf p.width := Nat.pos_of_mul_pos_left (Nat.zero_lt_of_lt h)
  have hrow : n / burstsOf p.width < p.height := Nat.div_lt_of_lt_mul (by rwa [Nat.mul_comm])
  have hcol : n % burstsOf p.width < (p.width + 63) / 64 := Nat.mod_lt n hpos
  simp only [StoreParams.cut]
  generalize n / burstsOf p.width = row at hrow ⊢
  generalize n % burstsOf p.width = col at hcol ⊢
  split_ifs <;> dsimp only <;> omega

theorem StoreParams.targetRun_eq (p : StoreParams) (n : Nat) :
    p.targetRun n = (p.target.at (p.cut n).1 (p.cut n).2.1, (p.cut n).2.2) := rfl

theorem View.at_add (v : View) (r c k : Nat) : v.at r (c + k) = v.at r c + k := by
  simp only [View.at]
  omega

/-- Every octet of a step is one of the destination's. -/
theorem StoreParams.targetRun_point (p : StoreParams) {n k : Nat} (h : n < p.steps)
    (hk : k < (p.targetRun n).2) : ∃ r < p.height, ∃ c < p.width,
      p.target.at r c = (p.targetRun n).1 + k := by
  obtain ⟨hrow, -, hcol⟩ := p.cut_bounds h
  have hlen : k < (p.cut n).2.2 := hk
  exact ⟨(p.cut n).1, hrow, (p.cut n).2.1 + k, by omega, View.at_add ..⟩

/-- The request that begins a step, if it writes, is for the step's octets. -/
theorem StoreOp.firstRequest_eq_some {op : StoreOp} {r : BurstRequest} (h : op.firstRequest = some r) :
    op.next < op.params.steps ∧
      (r.write = true → (r.addr, r.len) = op.params.targetRun op.next) := by
  unfold StoreOp.firstRequest at h
  split_ifs at h with hnext hread <;> cases h
  · exact ⟨hnext, by simp⟩
  · exact ⟨hnext, fun _ => rfl⟩

/-- Only an operation that writes carries octets to the store. -/
theorem StoreOp.burstData_read {op : StoreOp} (h : op.params.writes = false) (len : Nat) :
    op.burstData len = [] := by
  unfold StoreOp.burstData
  cases hp : op.params <;> simp_all [StoreParams.writes]

/-! ### Refusals and fences -/

/-- An operation that passed its checks has no destination octet in a REJECT fence (R103). -/
theorem StoreParams.not_rejected {p : StoreParams} {fences : List Fence} (h : p.refusal fences = none)
    (hwrites : p.writes = true) {f : Fence} (hf : f ∈ fences) (hmode : f.mode = .reject) {r c : Nat}
    (hr : r < p.height) (hc : c < p.width) : f.contains (p.target.at r c) = false := by
  have hnone : p.fencedBy fences = none := by
    unfold StoreParams.refusal at h
    split at h
    · simp at h
    · split_ifs at h
      split at h <;> simp_all
  obtain ⟨i, hi, rfl⟩ := List.mem_iff_getElem.1 hf
  simp only [StoreParams.fencedBy, hwrites, if_true, List.find?_eq_none, List.mem_range] at hnone
  have hall := hnone i hi
  simp only [List.getD_eq_getElem?_getD, List.getElem?_eq_getElem hi, Option.getD_some, hmode,
    decide_true, Bool.true_and, StoreParams.anyTarget, Bool.not_eq_true, List.any_eq_false,
    List.mem_range] at hall
  exact hall r hr c hc

/-- What the law of fences says of a RUNNING operation. -/
structure StoreOp.Fenced (op : StoreOp) (o : OverlayStore) : Prop where
  fences : op.ending = false → op.fences = o.fences
  passed : op.params.refusal op.fences = none
  next : op.next < op.params.steps
  waiting : ∀ r ∈ o.ceWaiting, r.write = true → (r.addr, r.len) = op.params.targetRun op.next
  granted : ∀ g ∈ o.busy, g.owner = .ce → g.request.write = true →
    (g.request.addr, g.request.len) = op.params.targetRun op.next

/-- A RUNNING operation in the record obeys its fences (R103, R104, R118). -/
def OverlayStore.Fenced (o : OverlayStore) : Prop := ∀ op ∈ o.op, op.running = true → op.Fenced o

theorem fenceLaw_iff {s : State} : FenceLaw s ↔ Memory.Wf s.os.cells ∧ s.os.Fenced := by
  refine and_congr_right fun _ => forall₂_congr fun op _ => forall_congr' fun _ => ?_
  exact ⟨fun ⟨hfences, hpassed, hnext, hwaiting, hgranted⟩ =>
      ⟨hfences, hpassed, hnext, hwaiting, hgranted⟩,
    fun ⟨hfences, hpassed, hnext, hwaiting, hgranted⟩ =>
      ⟨hfences, hpassed, hnext, hwaiting, hgranted⟩⟩

/-- A granted write burst reaches no octet that a fence protects and its mask leaves open (R103, R104). -/
theorem StoreOp.Fenced.protected_masked {op : StoreOp} {o : OverlayStore} (h : op.Fenced o)
    {r : BurstRequest} {d : Bool} (hbusy : o.busy = some ⟨.ce, r, d⟩) (hwrite : r.write = true) {a : Nat}
    (hprotected : protectedBy op.fences a = true) :
    ¬ (r.addr ≤ a ∧ a < r.addr + (op.burstData r.len).length ∧ clippedBy op.fences a = false) := by
  rintro ⟨hfrom, hto, hclip⟩
  obtain ⟨f, hf, hprotects⟩ := List.any_eq_true.1 hprotected
  simp only [Bool.and_eq_true, decide_eq_true_eq] at hprotects
  obtain ⟨hmode, hcontains⟩ := hprotects
  by_cases hwrites : op.params.writes = true
  · have hrun := h.granted _ hbusy rfl hwrite
    have hlen := burstData_length_le op r.len
    obtain ⟨row, hrow, col, hcol, hpoint⟩ := op.params.targetRun_point (k := a - r.addr) h.next (by
      rw [← hrun]; dsimp only; omega)
    rw [← hrun] at hpoint
    dsimp only at hpoint
    have hat : op.params.target.at row col = a := by omega
    cases hm : f.mode with
    | off => exact hmode hm
    | reject =>
      have := StoreParams.not_rejected h.passed hwrites hf hm hrow hcol
      rw [hat, hcontains] at this
      exact absurd this (by simp)
    | clip =>
      have : clippedBy op.fences a = true := List.any_eq_true.2 ⟨f, hf, by simp [hm, hcontains]⟩
      rw [hclip] at this
      exact absurd this (by simp)
  · rw [StoreOp.burstData_read (by simpa using hwrites)] at hto
    simp at hto
    omega

/-! ### The moves keep the fence law -/

/-- A grant carries the engine's request along. -/
theorem OverlayStore.Fenced.grant {o : OverlayStore} (h : o.Fenced) : o.grant.Fenced := by
  intro op hop hrun
  rw [OverlayStore.grant_op] at hop
  obtain ⟨hfences, hpassed, hnext, hwaiting, hgranted⟩ := h op hop hrun
  have hfences : op.ending = false → op.fences = o.grant.fences := by simpa using hfences
  obtain ⟨hw, hbusy⟩ | ⟨r, hwas, -, hw, hbusy⟩ := o.grant_cases
  · refine ⟨hfences, hpassed, hnext, by rw [hw]; exact hwaiting, fun g hg hce => ?_⟩
    obtain hbusy | ⟨-, r, hbusy⟩ := hbusy
    · exact hgranted g (hbusy ▸ hg) hce
    · obtain rfl := Option.some.inj (hbusy.symm.trans hg)
      cases hce
  · refine ⟨hfences, hpassed, hnext, by simp [hw], fun g hg _ => ?_⟩
    obtain rfl := Option.some.inj (hbusy.symm.trans hg)
    exact hwaiting r hwas

/-- The SF's request, and the mark of its granted burst, are nothing to the operation. -/
theorem OverlayStore.Fenced.of_span {o q : OverlayStore} (h : o.Fenced) (hop : q.op = o.op)
    (hfences : q.fences = o.fences) (hwaiting : q.ceWaiting = o.ceWaiting)
    (hbusy : ∀ g ∈ q.busy, g.owner = .ce → g ∈ o.busy) : q.Fenced := by
  intro op hmem hrun
  obtain ⟨hf, hpassed, hnext, hw, hgranted⟩ := h op (hop ▸ hmem) hrun
  exact ⟨by rwa [hfences], hpassed, hnext, by rwa [hwaiting],
    fun g hg hce => hgranted g (hbusy g hg hce) hce⟩

/-- An empty record, or an operation still CHECKING. -/
theorem OverlayStore.fenced_of_not_running {o : OverlayStore}
    (h : ∀ op ∈ o.op, op.running = false) : o.Fenced := fun op hop hrun => by
  simp [h op hop] at hrun

/-- An ended operation keeps the fences it was checked against, whatever becomes of those in force (R118). -/
theorem OverlayStore.Fenced.cut {s : State} (h : s.os.Fenced) (fences : List Fence) :
    ({ s.os.cut with fences := fences } : OverlayStore).Fenced := by
  obtain ⟨hop, hcut⟩ | ⟨-, hcut⟩ | ⟨op, hop, -, hcut⟩ := OverlayStore.cut_cases s <;> rw [hcut]
  · exact OverlayStore.fenced_of_not_running (by simp [hop])
  · exact OverlayStore.fenced_of_not_running (by simp)
  · rintro _ ⟨⟩ hrun
    obtain ⟨-, hpassed, hnext, hwaiting, hgranted⟩ := h op hop hrun
    exact ⟨by simp, hpassed, hnext, hwaiting, hgranted⟩

theorem StoreMove.fenced {s t : State} (h : StoreMove s t) (hs : s.os.Fenced) : t.os.Fenced := by
  have hcut : s.os.cut.Fenced := hs.cut s.os.cut.fences
  cases h with
  | still hos | commit _ _ hos | release _ hos => rw [hos]; exact hs
  | fetch request hos =>
    rw [hos]
    exact OverlayStore.Fenced.grant (hs.of_span rfl rfl rfl fun g hg _ => hg)
  | stop hos =>
    rw [hos]
    refine hs.of_span rfl rfl rfl fun g hg hce => ?_
    obtain ⟨⟨owner, r, d⟩, hbusy, rfl⟩ := Option.map_eq_some_iff.1 hg
    cases owner with
    | sf => cases hce
    | ce => exact hbusy
  | store q p _ hos =>
    rw [hos]
    exact OverlayStore.fenced_of_not_running (by simp [StoreOp.checking])
  | fence fences hidle hos =>
    rw [hos]
    exact OverlayStore.fenced_of_not_running (by simp_all [canBegin])
  | dropped hos | marked hos => rw [hos]; exact hcut
  | reset hos => rw [hos]; exact hs.cut _

theorem StoreRun.fenced {s t : State} (h : StoreRun s t) (hs : s.os.Fenced) : t.os.Fenced :=
  h.induct (P := fun x => x.os.Fenced) (fun move _ => move.fenced) hs

/-! ### The store's own rows -/

/-- An operation that goes on asks for its next step, or leaves the record empty. -/
theorem advanceOperation_begins (op : StoreOp) (s : State) : ∃ t, StoreRun t (advanceOperation op s) ∧
    t.sf = s.sf ∧ (t.os = { s.os with op := none } ∨ ∃ r, op.settled.firstRequest = some r ∧
      t.os = { s.os with op := some op.settled, ceWaiting := some r }) := by
  simp only [advanceOperation]
  split
  · rename_i r hr
    exact ⟨_, .refl, rfl, .inr ⟨r, hr, rfl⟩⟩
  · exact ⟨_, settleEngine_storeRun _, by simp, .inl (by simp [emptyRecord])⟩

theorem endOperation_begins (op : StoreOp) (s : State) : ∃ t, StoreRun t (endOperation op s) ∧
    t.sf = s.sf ∧ t.os = { s.os with op := none } := by
  simp only [endOperation]
  split
  · obtain ⟨t, heq, hos, hsf, -⟩ := completeCancel_eq _ (cancelledData (some op)) (emptyRecord s)
    rw [heq]
    exact ⟨t, settleEngine_storeRun t, hsf, hos⟩
  · exact ⟨_, settleEngine_storeRun _, rfl, rfl⟩

/-- What an operation that has passed a step leaves obeys its fences. -/
theorem advanceOperation_fenced {op : StoreOp} {s : State} (hfences : op.fences = s.os.fences)
    (hpassed : op.params.refusal op.fences = none) (hbusy : ceBusy s = false) :
    (advanceOperation op s).os.Fenced := by
  obtain ⟨t, hrun, -, hos⟩ := advanceOperation_begins op s
  refine hrun.fenced ?_
  obtain hos | ⟨r, hr, hos⟩ := hos <;> rw [hos]
  · exact OverlayStore.fenced_of_not_running (by simp)
  · rintro _ ⟨⟩ -
    obtain ⟨hnext, hwrite⟩ := StoreOp.firstRequest_eq_some hr
    refine ⟨fun _ => by simpa using hfences, by simpa using hpassed, hnext, ?_, fun g hg hce => ?_⟩
    · rintro _ ⟨⟩
      exact hwrite
    · obtain ⟨owner, q, d⟩ := g
      obtain rfl : owner = .ce := hce
      exact absurd (ceBusy_eq_true.2 ⟨q, d, hg⟩) (by simp [hbusy])

theorem endOperation_fenced (op : StoreOp) (s : State) : (endOperation op s).os.Fenced := by
  obtain ⟨t, hrun, -, hos⟩ := endOperation_begins op s
  exact hrun.fenced (by rw [hos]; exact OverlayStore.fenced_of_not_running (by simp))

theorem completeChecks_fenced {op : StoreOp} {s : State} (h : RecordLaw s) (hop : s.os.op = some op)
    (hrun : op.running = false) : (completeChecks op s).os.Fenced := by
  obtain ⟨hcore, -⟩ := recordLaw_iff.1 h
  obtain ⟨-, -, hbusy⟩ := hcore.checking op hop hrun
  unfold completeChecks
  split
  · exact (settleEngine_storeRun _).fenced (OverlayStore.fenced_of_not_running (by simp [emptyRecord]))
  · rename_i hpassed
    exact OverlayStore.Fenced.grant (advanceOperation_fenced rfl hpassed hbusy)

theorem completeEngineBurst_fenced {s : State} {r : BurstRequest} {d : Bool} (hrecord : RecordLaw s)
    (h : s.os.Fenced) (hbusy : s.os.busy = some ⟨.ce, r, d⟩) :
    (completeEngineBurst ⟨.ce, r, d⟩ s).os.Fenced := by
  obtain ⟨op, hop, hrun, hwaiting, -⟩ := hrecord.granted (ceBusy_eq_true.2 ⟨r, d, hbusy⟩)
  obtain ⟨hfences, hpassed, hnext, -⟩ := h op hop hrun
  refine OverlayStore.Fenced.grant ?_
  simp only [State.withOs_os, hop]
  split_ifs
  · simp only [completeWrite]
    split_ifs with hend
    · exact endOperation_fenced _ _
    · exact advanceOperation_fenced (hfences (by simpa using hend)) hpassed rfl
  · simp only [completeRead]
    split_ifs with hend
    · exact endOperation_fenced _ _
    · rintro _ ⟨⟩ -
      refine ⟨hfences, hpassed, hnext, ?_, by simp⟩
      rintro _ ⟨⟩ -
      rfl
    · exact advanceOperation_fenced (hfences (by simpa using hend)) hpassed rfl

end Sys2Proof.Machine
end

section
/-! The octets of the store over every row: the fence law, the octets that fences protect, and the canonical
form of store and line buffers (R96, R97, R103, R104, R107, R109, R118). -/

namespace Sys2Proof.Machine

/-! ### The octets that a row leaves -/

/-- The store after a completed burst of the engine: a write burst's octets, less those it masks (R104,
R109). -/
def OverlayStore.cellsAfter (o : OverlayStore) (r : BurstRequest) : Memory :=
  match o.op with
  | some op =>
    if r.write then Memory.writeMasked (clippedBy op.fences) o.cells r.addr (op.burstData r.len)
    else o.cells
  | none => o.cells

theorem completeEngineBurst_begins (g : Grant) (s : State) : ∃ t,
    StoreRun t (completeEngineBurst g s) ∧ t.sf = s.sf ∧ t.os.cells = s.os.cellsAfter g.request := by
  have hgrant : ∀ {x y : State}, StoreRun x y → StoreRun x (grantStore y) := fun h =>
    h.trans (.granted rfl (by simp) (by simp))
  simp only [completeEngineBurst, OverlayStore.cellsAfter, State.withOs_os]
  cases s.os.op with
  | none => exact ⟨_, hgrant .refl, rfl, rfl⟩
  | some op =>
    dsimp only
    split_ifs
    · simp only [completeWrite]
      split_ifs
      · obtain ⟨t, hrun, hsf, hos⟩ := endOperation_begins (op.afterWrite g.request).whenEnded
          ((s.withOs { s.os with busy := none }).withOs { s.os with
            busy := none
            cells := Memory.writeMasked (clippedBy op.fences) s.os.cells g.request.addr
              (op.burstData g.request.len) })
        exact ⟨t, hgrant hrun, hsf, by rw [hos]; rfl⟩
      · obtain ⟨t, hrun, hsf, hos⟩ := advanceOperation_begins
          { op.afterWrite g.request with next := op.next + 1 }
          ((s.withOs { s.os with busy := none }).withOs { s.os with
            busy := none
            cells := Memory.writeMasked (clippedBy op.fences) s.os.cells g.request.addr
              (op.burstData g.request.len) })
        exact ⟨t, hgrant hrun, hsf, by obtain hos | ⟨r, -, hos⟩ := hos <;> rw [hos] <;> rfl⟩
    · simp only [completeRead]
      split_ifs
      · obtain ⟨t, hrun, hsf, hos⟩ := endOperation_begins op (s.withOs { s.os with busy := none })
        exact ⟨t, hgrant hrun, hsf, by rw [hos]; rfl⟩
      · exact ⟨_, hgrant .refl, rfl, rfl⟩
      · obtain ⟨t, hrun, hsf, hos⟩ := advanceOperation_begins
          { op with data := op.data ++ Memory.readRun s.os.cells g.request.addr g.request.len
                    next := op.next + 1 } (s.withOs { s.os with busy := none })
        exact ⟨t, hgrant hrun, hsf, by obtain hos | ⟨r, -, hos⟩ := hos <;> rw [hos] <;> rfl⟩

theorem completeChecks_begins (op : StoreOp) (s : State) : ∃ t,
    StoreRun t (completeChecks op s) ∧ t.sf = s.sf ∧ t.os.cells = s.os.cells := by
  unfold completeChecks
  split
  · exact ⟨_, settleEngine_storeRun _, by simp, by simp [emptyRecord]⟩
  · obtain ⟨t, hrun, hsf, hos⟩ := advanceOperation_begins
      { op with running := true, fences := s.os.fences } s
    exact ⟨t, hrun.trans (.granted rfl (by simp) (by simp)), hsf,
      by obtain hos | ⟨r, -, hos⟩ := hos <;> rw [hos]⟩

/-- The octets a pin reset may change are those of a write burst that it cuts (R97, R119). -/
theorem cellsAfterPinReset_cases (s : State) : cellsAfterPinReset s = s.os.cells ∨
    ∃ op r d, s.os.op = some op ∧ s.os.busy = some ⟨.ce, r, d⟩ ∧ r.write = true ∧
      r.addr + r.len ≤ 1048576 ∧ cellsAfterPinReset s = tornCells op r s.free s.os.cells := by
  unfold cellsAfterPinReset
  split
  · rename_i op r d hop hbusy
    split_ifs with hcut
    · obtain ⟨hwrite, hstore⟩ := Bool.and_eq_true_iff.1 hcut
      exact .inr ⟨op, r, d, hop, hbusy, hwrite, of_decide_eq_true hstore, rfl⟩
    · exact .inl rfl
  · exact .inl rfl

/-- What each octet written within a cut burst keeps, the torn store has. -/
theorem tornCells_keeps {P : Memory → Prop} (op : StoreOp) (r : BurstRequest) (free : Nat)
    {cells : Memory} (hwrite : ∀ m k v, k < r.len → P m → P (Memory.write m (r.addr + k) v))
    (h : P cells) : P (tornCells op r free cells) := by
  refine List.foldlRecOn (motive := P) _ _ h fun m hm k hk => ?_
  have hlen := burstData_length_le op r.len
  have hk : k < (op.burstData r.len).length := List.mem_range.1 hk
  split_ifs
  · exact hm
  · exact hwrite m k _ (by omega) hm
  · exact hm

/-- The row changes no octet of the store. -/
theorem exec_cells {c : Instr} {s t : State} (hpower : c ≠ .powerOn) (hpin : c ≠ .pinReset)
    (hburst : c ≠ .ceBurstComplete) (h : exec c s = .next t) : t.os.cells = s.os.cells := by
  by_cases hrow : StoreRow c
  swap
  · exact (exec_storeRun hrow h).cells.1
  simp only [StoreRow, List.mem_cons, List.not_mem_nil, or_false] at hrow
  obtain rfl | rfl | rfl | rfl | rfl | rfl := hrow
  · contradiction
  · contradiction
  · simp only [exec, execSfBurstComplete] at h
    split at h
    · rename_i r d _
      split_ifs at h
      cases h
      obtain ⟨request, hos⟩ := completeSpanBurst_os ⟨.sf, r, d⟩ s
      simp [hos]
    · cases h; rfl
  · contradiction
  · simp only [exec, execStoreChecksComplete] at h
    split at h
    · rename_i op _
      split_ifs at h <;> cases h
      · rfl
      · obtain ⟨u, hrun, -, hcells⟩ := completeChecks_begins op s
        exact hrun.cells.1.trans hcells
    · cases h; rfl
  · cases h; rfl

/-- CE_BURST_COMPLETE without a granted burst of the engine does nothing; with one that lies in the store
it completes it. -/
theorem exec_ceBurstComplete_cases {s t : State} (h : exec .ceBurstComplete s = .next t) :
    t = s ∨ ∃ r d, s.os.busy = some ⟨.ce, r, d⟩ ∧ r.addr + r.len ≤ 1048576 ∧
      t = completeEngineBurst ⟨.ce, r, d⟩ s := by
  simp only [exec, execCeBurstComplete] at h
  split at h
  · rename_i r d hbusy
    split_ifs at h with hstore
    cases h
    exact .inr ⟨r, d, hbusy, of_decide_eq_true hstore, rfl⟩
  · cases h
    exact .inl rfl

/-! ### The fence law -/

theorem OverlayStore.cellsAfter_wf {o : OverlayStore} (h : Memory.Wf o.cells) (r : BurstRequest) :
    Memory.Wf (o.cellsAfter r) := by
  unfold OverlayStore.cellsAfter
  split
  · split_ifs
    · exact Memory.writeMasked_wf _ h _ _
    · exact h
  · exact h

theorem cellsAfterPinReset_wf {s : State} (h : Memory.Wf s.os.cells) :
    Memory.Wf (cellsAfterPinReset s) := by
  obtain hsame | ⟨op, r, d, -, -, -, -, htorn⟩ := cellsAfterPinReset_cases s
  · rwa [hsame]
  · rw [htorn]
    exact tornCells_keeps op r s.free (fun m k v _ hm => Memory.write_wf hm _ v) h

/-- Every row keeps the law of a RUNNING operation's fences and bursts; that the operation with a granted
burst is RUNNING is the law of the record. -/
theorem exec_fenceLaw {c : Instr} {s t : State} (hrecord : RecordLaw s) (h : FenceLaw s)
    (hnext : exec c s = .next t) : FenceLaw t := by
  obtain ⟨hwf, hfenced⟩ := fenceLaw_iff.1 h
  have hempty : ∀ x : State, Memory.Wf x.os.cells → x.os.op = none → FenceLaw x := fun x hx hop =>
    fenceLaw_iff.2 ⟨hx, OverlayStore.fenced_of_not_running (by simp [hop])⟩
  by_cases hrow : StoreRow c
  swap
  · have hrun := exec_storeRun hrow hnext
    exact fenceLaw_iff.2 ⟨by rw [hrun.cells.1]; exact hwf, hrun.fenced hfenced⟩
  simp only [StoreRow, List.mem_cons, List.not_mem_nil, or_false] at hrow
  obtain rfl | rfl | rfl | rfl | rfl | rfl := hrow
  · cases hnext
    have hrun := startFirstFrame_storeRun (powerOnValues s)
    have hstart := fenceLaw_iff.1 (hempty (powerOnValues s) reset_store_wf rfl)
    exact fenceLaw_iff.2 ⟨by rw [hrun.cells.1]; exact hstart.1, hrun.fenced hstart.2⟩
  · cases hnext
    exact hempty _ (cellsAfterPinReset_wf hwf) rfl
  · have hcells := exec_cells (by simp) (by simp) (by simp) hnext
    refine fenceLaw_iff.2 ⟨by rw [hcells]; exact hwf, ?_⟩
    simp only [exec, execSfBurstComplete] at hnext
    split at hnext
    · rename_i r d hbusy
      split_ifs at hnext
      cases hnext
      obtain ⟨request, hos⟩ := completeSpanBurst_os ⟨.sf, r, d⟩ s
      rw [hos]
      exact OverlayStore.Fenced.grant (hfenced.of_span rfl rfl rfl (by simp))
    · cases hnext; exact hfenced
  · obtain rfl | ⟨r, d, hbusy, -, rfl⟩ := exec_ceBurstComplete_cases hnext
    · exact h
    · obtain ⟨u, hrun, -, hcells⟩ := completeEngineBurst_begins ⟨.ce, r, d⟩ s
      refine fenceLaw_iff.2 ⟨?_, completeEngineBurst_fenced hrecord hfenced hbusy⟩
      rw [hrun.cells.1, hcells]
      exact OverlayStore.cellsAfter_wf hwf r
  · have hcells := exec_cells (by simp) (by simp) (by simp) hnext
    refine fenceLaw_iff.2 ⟨by rw [hcells]; exact hwf, ?_⟩
    simp only [exec, execStoreChecksComplete] at hnext
    split at hnext
    · rename_i op hop
      split_ifs at hnext with hrun <;> cases hnext
      · exact hfenced
      · exact completeChecks_fenced hrecord hop (by simpa using hrun)
    · cases hnext; exact hfenced
  · cases hnext
    exact fenceLaw_iff.2 ⟨hwf, hfenced.of_span rfl rfl rfl fun g hg _ => hg⟩

/-- Settles O12: a step runs one row, and every row keeps the law. -/
theorem stepKeepsFenceLaw : Obligations.StepKeepsFenceLaw := by
  unfold Obligations.StepKeepsFenceLaw
  intro s t hrecord h hnext
  unfold step at hnext
  split at hnext
  · cases hnext; exact h
  · rename_i c rest _
    exact exec_fenceLaw (s := { s with pending := rest }) hrecord h hnext

/-! ### Protected octets -/

/-- Settles O13: only a write burst of the engine, completed or cut by a pin reset, writes the store, and
it is the burst of a RUNNING operation that has passed its checks. -/
theorem fencedOctetsStay : Obligations.FencedOctetsStay := by
  unfold Obligations.FencedOctetsStay
  intro c s t hrecord h hpower hnext a hprotected
  obtain ⟨hwf, hfenced⟩ := fenceLaw_iff.1 h
  have hmasked : ∀ {op : StoreOp} {r : BurstRequest} {d : Bool}, s.os.op = some op →
      s.os.busy = some ⟨.ce, r, d⟩ → r.write = true →
      ¬ (r.addr ≤ a ∧ a < r.addr + (op.burstData r.len).length ∧ clippedBy op.fences a = false) := by
    intro op r d hop hbusy hwrite
    obtain ⟨op', hop', hrun, -⟩ := hrecord.granted (ceBusy_eq_true.2 ⟨r, d, hbusy⟩)
    obtain rfl := Option.some.inj (hop.symm.trans hop')
    exact (hfenced op hop hrun).protected_masked hbusy hwrite (hprotected op hop hrun)
  by_cases hpin : c = .pinReset
  · subst hpin
    cases hnext
    show Memory.read (cellsAfterPinReset s) a = _
    obtain hsame | ⟨op, r, d, hop, hbusy, hwrite, -, htorn⟩ := cellsAfterPinReset_cases s
    · rw [hsame]
    · rw [htorn]
      refine (tornCells_torn op r s.free hwf a).resolve_right fun ⟨hfrom, hto, hclip, _⟩ => ?_
      exact hmasked hop hbusy hwrite ⟨hfrom, hto, hclip⟩
  by_cases hburst : c = .ceBurstComplete
  · subst hburst
    obtain rfl | ⟨r, d, hbusy, -, rfl⟩ := exec_ceBurstComplete_cases hnext
    · rfl
    · obtain ⟨u, hrun, -, hcells⟩ := completeEngineBurst_begins ⟨.ce, r, d⟩ s
      rw [hrun.cells.1, hcells]
      cases hop : s.os.op with
      | none => simp [OverlayStore.cellsAfter, hop]
      | some op =>
        simp only [OverlayStore.cellsAfter, hop]
        split_ifs with hwrite
        · rw [Memory.read_writeMasked _ hwf, if_neg (hmasked hop hbusy hwrite)]
        · rfl
  · rw [exec_cells hpower hpin hburst hnext]

/-! ### The canonical form -/

/-- Canonical, within the addresses of the store (R96). -/
def Memory.InStore (m : Memory) : Prop := Memory.Wf m ∧ ∀ c ∈ m, c.1 < 1048576

theorem storeLaw_iff {s : State} : StoreLaw s ↔ s.os.cells.InStore ∧
    Memory.Wf s.sf.showing.octets ∧ Memory.Wf s.sf.filling.octets := and_assoc.symm

theorem memory_nil_wf : Memory.Wf [] := by simp [Memory.Wf]

theorem BuffersFrom.wf {s t : State} (h : BuffersFrom s t)
    (hs : Memory.Wf s.sf.showing.octets ∧ Memory.Wf s.sf.filling.octets) :
    Memory.Wf t.sf.showing.octets ∧ Memory.Wf t.sf.filling.octets := by
  have hall : ∀ b ∈ [([] : Memory), s.sf.showing.octets, s.sf.filling.octets], Memory.Wf b := by
    simpa only [List.forall_mem_cons, List.not_mem_nil, false_implies, implies_true, and_true] using
      And.intro memory_nil_wf hs
  simpa [BuffersFrom] using fun b hb => hall b (h b hb)

theorem StoreRun.buffers {s t : State} (h : StoreRun s t)
    (hs : Memory.Wf s.sf.showing.octets ∧ Memory.Wf s.sf.filling.octets) :
    Memory.Wf t.sf.showing.octets ∧ Memory.Wf t.sf.filling.octets :=
  h.induct (P := fun x => Memory.Wf x.sf.showing.octets ∧ Memory.Wf x.sf.filling.octets)
    (fun _ hbuffers => hbuffers.wf) hs

/-- A span burst's octets enter the filling buffer in canonical form (R86). -/
theorem takeSpanOctets_buffers (octets : List Byte) {s : State}
    (hs : Memory.Wf s.sf.showing.octets ∧ Memory.Wf s.sf.filling.octets) :
    Memory.Wf (takeSpanOctets octets s).sf.showing.octets ∧
      Memory.Wf (takeSpanOctets octets s).sf.filling.octets := by
  obtain ⟨hshowing, hfilling⟩ := hs
  simp only [takeSpanOctets]
  split
  · split_ifs <;> exact ⟨hshowing, Memory.writeRun_wf hfilling _ _⟩
  · exact ⟨hshowing, hfilling⟩

theorem completeSpanBurst_buffers (g : Grant) {s : State}
    (hs : Memory.Wf s.sf.showing.octets ∧ Memory.Wf s.sf.filling.octets) :
    Memory.Wf (completeSpanBurst g s).sf.showing.octets ∧
      Memory.Wf (completeSpanBurst g s).sf.filling.octets := by
  simp only [completeSpanBurst]
  split_ifs
  · simpa using hs
  · simpa using takeSpanOctets_buffers _ (s := s.withOs { s.os with busy := none }) hs

theorem OverlayStore.cellsAfter_inStore {o : OverlayStore} (h : o.cells.InStore) {r : BurstRequest}
    (hstore : r.addr + r.len ≤ 1048576) : (o.cellsAfter r).InStore := by
  obtain ⟨hwf, hrange⟩ := h
  refine ⟨OverlayStore.cellsAfter_wf hwf r, fun c hc => ?_⟩
  unfold OverlayStore.cellsAfter at hc
  split at hc
  · rename_i op _
    split_ifs at hc
    · have hlen := burstData_length_le op r.len
      obtain hc | ⟨-, hc⟩ := Memory.mem_writeMasked _ hc
      · exact hrange c hc
      · omega
    · exact hrange c hc
  · exact hrange c hc

theorem cellsAfterPinReset_inStore {s : State} (h : s.os.cells.InStore) :
    (cellsAfterPinReset s).InStore := by
  obtain hsame | ⟨op, r, d, -, -, -, hstore, htorn⟩ := cellsAfterPinReset_cases s
  · rwa [hsame]
  · rw [htorn]
    refine tornCells_keeps op r s.free (fun m k v hk ⟨hwf, hrange⟩ => ⟨Memory.write_wf hwf _ v, ?_⟩) h
    intro c hc
    obtain hc | ⟨rfl, -⟩ := Memory.mem_write hc
    · exact hrange c hc
    · dsimp only; omega

/-- Every row keeps the store and the line buffers in canonical form. -/
theorem exec_storeLaw {c : Instr} {s t : State} (h : StoreLaw s) (hnext : exec c s = .next t) :
    StoreLaw t := by
  obtain ⟨hcells, hbuffers⟩ := storeLaw_iff.1 h
  have hrun : ∀ {x : State}, x.os.cells.InStore →
      Memory.Wf x.sf.showing.octets ∧ Memory.Wf x.sf.filling.octets → StoreRun x t → StoreLaw t :=
    fun hx hbuf hr => storeLaw_iff.2 ⟨by rw [hr.cells.1]; exact hx, hr.buffers hbuf⟩
  by_cases hrow : StoreRow c
  swap
  · exact hrun hcells hbuffers (exec_storeRun hrow hnext)
  simp only [StoreRow, List.mem_cons, List.not_mem_nil, or_false] at hrow
  obtain rfl | rfl | rfl | rfl | rfl | rfl := hrow
  · cases hnext
    exact hrun (x := powerOnValues s)
      ⟨reset_store_wf, by simp [powerOnValues, State.reset, OverlayStore.initial]⟩
      ⟨memory_nil_wf, memory_nil_wf⟩ (startFirstFrame_storeRun (powerOnValues s))
  · cases hnext
    exact storeLaw_iff.2 ⟨cellsAfterPinReset_inStore hcells, memory_nil_wf, memory_nil_wf⟩
  · refine storeLaw_iff.2 ⟨by rw [exec_cells (by simp) (by simp) (by simp) hnext]; exact hcells, ?_⟩
    simp only [exec, execSfBurstComplete] at hnext
    split at hnext
    · split_ifs at hnext
      cases hnext
      exact completeSpanBurst_buffers _ hbuffers
    · cases hnext; exact hbuffers
  · obtain rfl | ⟨r, d, -, hstore, rfl⟩ := exec_ceBurstComplete_cases hnext
    · exact h
    · obtain ⟨u, hburst, hsf, hafter⟩ := completeEngineBurst_begins ⟨.ce, r, d⟩ s
      exact hrun (by rw [hafter]; exact OverlayStore.cellsAfter_inStore hcells hstore)
        (by rw [hsf]; exact hbuffers) hburst
  · simp only [exec, execStoreChecksComplete] at hnext
    split at hnext
    · rename_i op _
      split_ifs at hnext <;> cases hnext
      · exact h
      · obtain ⟨u, hchecks, hsf, hsame⟩ := completeChecks_begins op s
        exact hrun (by rw [hsame]; exact hcells) (by rw [hsf]; exact hbuffers) hchecks
    · cases hnext; exact h
  · cases hnext; exact h

/-- Settles O5: a step runs one row, and every row keeps the form. -/
theorem stepKeepsStoreForm : Obligations.StepKeepsStoreForm := by
  unfold Obligations.StepKeepsStoreForm
  intro s t h hnext
  unfold step at hnext
  split at hnext
  · cases hnext; exact h
  · rename_i c rest _
    exact exec_storeLaw (s := { s with pending := rest }) h hnext

end Sys2Proof.Machine
end

section
/-! The node address (R146): what commands and line starts leave of it. -/

namespace Sys2Proof.Machine

/-! ### Commands -/

@[simp] theorem clearCounters_address (s : State) :
    (clearCounters s).mlu.address = s.mlu.address := rfl

@[simp] theorem resetBlocks_address (s : State) : (resetBlocks s).mlu.address = s.mlu.address := by
  simp [resetBlocks]

@[simp] theorem performReset_address (s : State) : (performReset s).mlu.address = s.mlu.address := by
  simp [performReset]

theorem checked_address {checks : List (Bool × Nat)} {run : State → State × Result} {s : State}
    (h : (run s).1.mlu.address = s.mlu.address) :
    (checked checks run s).1.mlu.address = s.mlu.address :=
  checked_keeps (f := fun x => x.mlu.address) h

theorem whileOpen_address {run : State → State × Result} {s : State}
    (h : (run s).1.mlu.address = s.mlu.address) : (whileOpen run s).1.mlu.address = s.mlu.address :=
  whileOpen_keeps (f := fun x => x.mlu.address) h

theorem Command.run_address (c : Command) (p : List Byte) (s : State) :
    (c.run p s).1.mlu.address = s.mlu.address := by
  cases c with
  | setRegion | setPalette | setCue => exact whileOpen_address (checked_address rfl)
  | editOpen =>
    simp only [Command.run, runEditOpen]
    split_ifs <;> rfl
  | editClose =>
    simp only [Command.run, runEditClose]
    split_ifs
    · split <;> simp
    · rfl
  | commit =>
    simp only [Command.run, runCommit]
    split_ifs <;> simp
  | readInfo | readStatus | clearCounters | ovlWrite | ovlFill | ovlCopy | ovlRead => rfl
  | setNotifyMask | setTiming | readRegion | readPalette | readCue | setFence | readFence
  | readMeasure | setReport => exact checked_address rfl

@[simp] theorem runSequenced_address (code : Byte) (p : List Byte) (s : State) :
    (runSequenced code p s).1.mlu.address = s.mlu.address := by
  unfold runSequenced
  split
  · rfl
  · split_ifs
    · exact Command.run_address _ p s
    · rfl

@[simp] theorem beginQueued_address (q : Queued) (s : State) :
    (beginQueued q s).mlu.address = s.mlu.address := by
  have hsequenced := runSequenced_address q.code q.payload s
  have hbroadcast := runBroadcastCommit_keeps q.payload s
  unfold beginQueued
  split_ifs <;> split <;> simp_all

@[simp] theorem beginNext_address (s : State) : (beginNext s).mlu.address = s.mlu.address := by
  unfold beginNext
  split_ifs
  · split <;> simp
  · rfl

/-- No act touches the node address. -/
def AddressActs (acts : List (State → State)) : Prop :=
  ∀ act ∈ acts, ∀ x, (act x).mlu.address = x.mlu.address

theorem AddressActs.run {acts : List (State → State)} (h : AddressActs acts) (s : State) :
    (runActs acts s).mlu.address = s.mlu.address :=
  runActs_keeps (f := fun x : State => x.mlu.address) h s

theorem settleActs_addressActs (s : State) : AddressActs (settleActs s) := fun act hact x => by
  rw [List.eq_of_mem_replicate hact, beginNext_address]

@[simp] theorem settleEngine_address (s : State) : (settleEngine s).mlu.address = s.mlu.address :=
  (settleActs_addressActs s).run s

@[simp] theorem takeCommitApplied_address (s : State) :
    (takeCommitApplied s).mlu.address = s.mlu.address := by
  unfold takeCommitApplied
  split <;> simp

@[simp] theorem commitNow_address (s : State) : (commitNow s).mlu.address = s.mlu.address := by
  simp [commitNow]

@[simp] theorem finishOperation_address (op : StoreOp) (s : State) :
    (finishOperation op s).mlu.address = s.mlu.address := by simp [finishOperation]

@[simp] theorem advanceOperation_address (op : StoreOp) (s : State) :
    (advanceOperation op s).mlu.address = s.mlu.address := by
  simp only [advanceOperation]
  split <;> simp

@[simp] theorem completeChecks_address (op : StoreOp) (s : State) :
    (completeChecks op s).mlu.address = s.mlu.address := by
  unfold completeChecks
  split <;> simp

@[simp] theorem completeCancel_address (c : CancelWait) (d : List Byte) (s : State) :
    (completeCancel c d s).mlu.address = s.mlu.address := by simp [completeCancel]

@[simp] theorem endOperation_address (op : StoreOp) (s : State) :
    (endOperation op s).mlu.address = s.mlu.address := by
  simp only [endOperation]
  split <;> simp

@[simp] theorem completeWrite_address (op : StoreOp) (r : BurstRequest) (s : State) :
    (completeWrite op r s).mlu.address = s.mlu.address := by
  simp only [completeWrite]
  split_ifs <;> simp

@[simp] theorem completeRead_address (op : StoreOp) (r : BurstRequest) (s : State) :
    (completeRead op r s).mlu.address = s.mlu.address := by
  simp only [completeRead]
  split_ifs <;> simp

@[simp] theorem completeEngineBurst_address (g : Grant) (s : State) :
    (completeEngineBurst g s).mlu.address = s.mlu.address := by
  simp only [completeEngineBurst]
  split
  · split_ifs <;> simp
  · simp

@[simp] theorem performCancel_address (seq code : Byte) (s : State) :
    (performCancel seq code s).mlu.address = s.mlu.address := by
  simp only [performCancel]
  split
  · simp
  · split_ifs <;> simp
  · simp
  · simp

theorem intakeImmediate_address {effect : State → State}
    (h : ∀ x, (effect x).mlu.address = x.mlu.address) (seq code : Byte) (p : List Byte) (s : State) :
    (intakeImmediate effect seq code p s).mlu.address = s.mlu.address := by
  simp only [intakeImmediate]
  split_ifs
  · exact h _
  · simp
  · simp

@[simp] theorem intakeAddressed_address (seq code : Byte) (p : List Byte) (s : State) :
    (intakeAddressed seq code p s).mlu.address = s.mlu.address := by
  unfold intakeAddressed
  split_ifs
  · exact intakeImmediate_address (performCancel_address _ _) _ _ _ s
  · exact intakeImmediate_address (fun x => by simp) _ _ _ s
  · simp

@[simp] theorem intakeBroadcast_address (code : Byte) (p : List Byte) (s : State) :
    (intakeBroadcast code p s).mlu.address = s.mlu.address := by
  unfold intakeBroadcast intakeBroadcastReset
  split_ifs <;> simp

/-! ### Output lines -/

theorem activationActs_addressActs (s : State) : AddressActs (activationActs s) := by
  unfold activationActs
  split_ifs
  · exact List.forall_mem_singleton.2 fun x => by simp
  · exact List.forall_mem_cons.2 ⟨commitNow_address, settleActs_addressActs s⟩
  · exact List.forall_mem_singleton.2 fun x => by simp

theorem dueActivationActs_addressActs (s : State) : AddressActs (dueActivationActs s) := by
  unfold dueActivationActs
  split_ifs
  · exact List.forall_mem_nil _
  · exact List.forall_mem_cons.2 ⟨fun _ => rfl, activationActs_addressActs s⟩

theorem endParseActs_addressActs (s : State) : AddressActs (endParseActs s) := fun act hact x =>
  (endParseActs_mlu s act hact x).1

theorem dropActs_addressActs (l : Option InputLine) : AddressActs (dropActs l) := by
  unfold dropActs
  split
  · intro act hact x
    rw [List.eq_of_mem_replicate hact]
    rfl
  · exact List.forall_mem_nil _

theorem lineEventActs_addressActs (activation : Bool) {others : List (State → State)} (s : State)
    (h : AddressActs others) : AddressActs (lineEventActs activation others s).1 := by
  intro act hact x
  simp only [lineEventActs, mem_interleaved, List.mem_append] at hact
  obtain (hact | hact) | hact := hact
  · simp [dueFrameEndActs_each s act hact x]
  · split_ifs at hact
    · exact dueActivationActs_addressActs s act hact x
    · exact absurd hact List.not_mem_nil
  · exact h act hact x

theorem Chosen.emit_address (c : Chosen) (s : State) : (c.emit s).mlu.address = s.mlu.address := by
  cases c <;> simp [Chosen.emit, emitNotification]

theorem assemblyActs_address (n : Nat) : ∀ act ∈ assemblyActs n, ∀ x : State × Assembly,
    (act x).1.mlu.address = x.1.mlu.address := by
  have hinsert : ∀ x : State × Assembly, (insertNext x).1.mlu.address = x.1.mlu.address := by
    rintro ⟨s, a⟩
    simp only [insertNext]
    split
    · split_ifs <;> simp [Chosen.emit_address]
    · simp
  simp only [assemblyActs, List.mem_cons, List.mem_replicate, forall_eq_or_imp]
  exact ⟨fun _ => rfl, fun act ⟨_, hact⟩ x => by rw [hact, hinsert]⟩

theorem assembleAmong_address {events : List (State → State)} (words : Nat) (forward : List Packet)
    (s : State) (h : AddressActs events) :
    (assembleAmong events words forward s).1.mlu.address = s.mlu.address := by
  simp only [assembleAmong]
  refine runActs_induct (P := fun x : State × Assembly => x.1.mlu.address = s.mlu.address)
    (fun act hact x hx => ?_) (by simp)
  rcases mem_interleaved.1 hact with hact | hact
  · obtain ⟨e, he, rfl⟩ := List.mem_map.1 hact
    exact (h e he x.1).trans hx
  · exact (assemblyActs_address _ act hact x).trans hx

theorem outputLineStart_address (kind : LineKind) (frameStart : Bool) (starts : List Pixel)
    (forward : List Packet) (activation : Bool) {others : List (State → State)} (s : State)
    (h : AddressActs others) :
    (outputLineStart kind frameStart starts forward activation others s).mlu.address =
      s.mlu.address := by
  have hevents := lineEventActs_addressActs activation s h
  cases kind with
  | active => simp [outputLineStart, h.run]
  | mgmt => simp [outputLineStart, mgmtLine, assembleAmong_address _ _ _ hevents]
  | blank => simp [outputLineStart, lineEvents, hevents.run]

theorem internalLine_address (i : Nat) {others : List (State → State)} (s : State)
    (h : AddressActs others) : (internalLine i others s).mlu.address = s.mlu.address :=
  outputLineStart_address _ _ _ _ _ (s.withOut _) h

theorem startInternalFrame_address (startedAt : Nat) {others : List (State → State)} (s : State)
    (h : AddressActs others) :
    (startInternalFrame startedAt others s).mlu.address = s.mlu.address := by
  simp only [startInternalFrame]
  rw [internalLine_address _ _ h]
  split_ifs <;> simp

theorem nextInternalFrame_address (s : State) : (nextInternalFrame s).mlu.address = s.mlu.address := by
  have hnone : AddressActs [] := List.forall_mem_nil _
  have hlimit : AddressActs [offerLock .holdover .freeRun .holdoverLimit] :=
    List.forall_mem_singleton.2 fun x => by simp
  simp only [nextInternalFrame]
  split_ifs <;> simp [startInternalFrame_address _ _ hnone, startInternalFrame_address _ _ hlimit]

theorem paceInternal_address (s : State) : (paceInternal s).mlu.address = s.mlu.address := by
  simp only [paceInternal]
  split_ifs
  · rfl
  · exact nextInternalFrame_address s
  · exact internalLine_address _ _ (List.forall_mem_nil _)

/-! ### Input lines -/

theorem departLocked_address (new : LockState) (cause : LockCause) {errors : List (State → State)}
    (s : State) (h : AddressActs errors) :
    (departLocked new cause errors s).mlu.address = s.mlu.address := by
  simp only [departLocked]
  rw [startInternalFrame_address]
  · simp
  · intro act hact x
    simp only [mem_interleaved, List.mem_append, List.mem_cons, List.not_mem_nil, or_false] at hact
    obtain ((hact | hact) | hact) | rfl | rfl := hact
    · exact h act hact x
    · exact dropActs_addressActs _ act hact x
    · exact dropActs_addressActs _ act hact x
    · rfl
    · simp

theorem expireFlywheel_address (due : Nat) (s : State) :
    (expireFlywheel due s).mlu.address = s.mlu.address := by
  have hnone : AddressActs [] := List.forall_mem_nil _
  simp only [expireFlywheel]
  split_ifs <;> simp [departLocked_address _ _ _ hnone]

theorem takeFrameStart_address (ended : Option InputFrame) {errors : List (State → State)} (s : State)
    (h : AddressActs errors) : (takeFrameStart ended errors s).mlu.address = s.mlu.address := by
  have hdepart := departLocked_address .acquiring .mismatch s h
  unfold takeFrameStart
  split
  · simp
  · split
    · split_ifs <;> simp
    · simp
  · split
    · split_ifs <;> simp [hdepart]
    · simp [hdepart]
  · split_ifs
    · split
      · split_ifs <;> simp
      · rfl
    · rfl

theorem carryLine_address (first : Bool) (a : InputLine) (b : Option InputLine)
    {errors : List (State → State)} (s : State) (h : AddressActs errors) :
    (carryLine first a b errors s).mlu.address = s.mlu.address := by
  simp only [carryLine]
  rw [outputLineStart_address _ _ _ _ _ _ h]
  split_ifs <;> simp

theorem followInput_address (a b : Option InputLine) (index : Nat) {errors : List (State → State)}
    (s : State) (h : AddressActs errors) :
    (followInput a b index errors s).mlu.address = s.mlu.address := by
  unfold followInput
  split
  · split_ifs
    · exact carryLine_address _ _ _ s h
    · exact carryLine_address _ _ _ (s.withRtu _) h
    · exact h.run s
  · exact h.run s

theorem takeLineStart_address (bits : BitVec 31) (clock : Nat) (s : State) :
    (takeLineStart bits clock s).mlu.address = s.mlu.address := by
  have hended := endParseActs_addressActs s
  have hnone : AddressActs [] := List.forall_mem_nil _
  have hparse : ∀ k x, (beginParse k x).mlu.address = x.mlu.address := fun k x => by
    unfold beginParse
    split_ifs <;> rfl
  simp only [takeLineStart, hparse]
  split_ifs <;> simp [followInput_address _ _ _ _ hended, followInput_address _ _ _ _ hnone,
    takeFrameStart_address _ _ hended]

end Sys2Proof.Machine
end

section
/-! Every row's frame: the queue of waiting commands, the answers, and the blocks that groups of rows leave
(R61, R98, R181, R200), with the three statements about them. -/

namespace Sys2Proof.Machine

/-! ### The queue of waiting commands and the answers -/

theorem handOver_next {seq code : Byte} {p : List Byte} {s t : State}
    (h : handOver seq code p s = .next t) : t = s ∨ t = intakeAddressed seq code p s := by
  unfold handOver at h
  split_ifs at h <;> cases h <;> simp

theorem handOver_pending {seq code : Byte} {p : List Byte} {s t : State}
    (h : handOver seq code p s = .next t) : t.pending = s.pending := by
  obtain rfl | rfl := handOver_next h <;> simp

theorem whileRunning_pending {effect : State → State} {s t : State}
    (h : whileRunning effect s = .next t) (heffect : (effect s).pending = s.pending) :
    t.pending = s.pending := by
  obtain rfl | rfl := whileRunning_next h
  · rfl
  · exact heffect

/-- No row touches the queue of waiting commands. -/
theorem exec_pending {c : Instr} {s t : State} (h : exec c s = .next t) : t.pending = s.pending := by
  cases c with
  | powerOn | pinReset | storeClearingDone =>
    cases h
    simp [startFirstFrame, powerOnValues, pinResetValues]
  | resetRelease =>
    simp only [exec, execResetRelease] at h
    split_ifs at h <;> cases h <;> simp [startFirstFrame]
  | inputLineStart => exact whileRunning_pending h (by simp)
  | inputPixelWord => exact whileRunning_pending h (by simp)
  | internalLineStart => exact whileRunning_pending h (by simp)
  | commandBegin => exact whileRunning_pending h (by simp)
  | acquireTimerExpiry =>
    simp only [exec, execAcquireTimerExpiry] at h
    split at h
    · exact whileRunning_pending h (by simp)
    · cases h; rfl
  | flywheelExpiry =>
    simp only [exec, execFlywheelExpiry] at h
    split at h
    · exact whileRunning_pending h (by simp)
    · cases h; rfl
  | holdoverLimit =>
    simp only [exec, execHoldoverLimit] at h
    split_ifs at h
    · exact whileRunning_pending h (by simp)
    · cases h; rfl
  | editExpiry =>
    simp only [exec, execEditExpiry] at h
    split_ifs at h
    · exact whileRunning_pending h (by simp)
    · cases h; rfl
  | reportCountdown region =>
    simp only [exec, execReportCountdown] at h
    split at h
    · split_ifs at h
      · exact whileRunning_pending h (by simp)
      · cases h; rfl
    · cases h; rfl
  | sfBurstComplete =>
    simp only [exec, execSfBurstComplete] at h
    split at h
    · split_ifs at h; cases h; simp
    · cases h; rfl
  | ceBurstComplete => obtain rfl | ⟨r, d, -, -, rfl⟩ := exec_ceBurstComplete_cases h <;> simp
  | storeChecksComplete =>
    simp only [exec, execStoreChecksComplete] at h
    split at h
    · split_ifs at h <;> cases h <;> simp
    · cases h; rfl
  | broadcastCommit p =>
    simp only [exec, execBroadcastCommit] at h
    split_ifs at h <;> cases h <;> simp
  | nodeReset broadcast seq p =>
    simp only [exec, execNodeReset] at h
    split_ifs at h
    · cases h; simp
    · cases h; rfl
    · exact handOver_pending h
  | unknownCode | readInfo | readStatus | clearCounters | setNotifyMask | setTiming | editOpen
  | editCloseDiscard | editCloseKeep | editCloseCommit | sequencedCommit | setRegion | setPalette
  | setCue | readRegion | readPalette | readCue | ovlWrite | ovlFill | ovlCopy | ovlRead | setFence
  | readFence | readMeasure | setReport | cancel => exact handOver_pending h

/-- The row answers a next state. -/
def Answers (o : Answer) : Prop := ∃ t, o = .next t

theorem whileRunning_answers (effect : State → State) (s : State) : Answers (whileRunning effect s) := by
  unfold whileRunning
  split_ifs <;> exact ⟨_, rfl⟩

theorem handOver_answers (seq code : Byte) (p : List Byte) (s : State) :
    Answers (handOver seq code p s) := by
  unfold handOver
  split_ifs <;> exact ⟨_, rfl⟩

/-- Every row but a burst's completion answers a next state. -/
theorem exec_answers {c : Instr} (hsf : c ≠ .sfBurstComplete) (hce : c ≠ .ceBurstComplete) (s : State) :
    Answers (exec c s) := by
  cases c with
  | sfBurstComplete | ceBurstComplete => contradiction
  | powerOn | pinReset | storeClearingDone => exact ⟨_, rfl⟩
  | inputLineStart | inputPixelWord | internalLineStart | commandBegin =>
    exact whileRunning_answers _ s
  | resetRelease =>
    simp only [exec, execResetRelease]
    split_ifs <;> exact ⟨_, rfl⟩
  | acquireTimerExpiry =>
    simp only [exec, execAcquireTimerExpiry]
    split
    · exact whileRunning_answers _ s
    · exact ⟨_, rfl⟩
  | flywheelExpiry =>
    simp only [exec, execFlywheelExpiry]
    split
    · exact whileRunning_answers _ s
    · exact ⟨_, rfl⟩
  | holdoverLimit =>
    simp only [exec, execHoldoverLimit]
    split_ifs
    · exact whileRunning_answers _ s
    · exact ⟨_, rfl⟩
  | editExpiry =>
    simp only [exec, execEditExpiry]
    split_ifs
    · exact whileRunning_answers _ s
    · exact ⟨_, rfl⟩
  | reportCountdown region =>
    simp only [exec, execReportCountdown]
    split
    · split_ifs
      · exact whileRunning_answers _ s
      · exact ⟨_, rfl⟩
    · exact ⟨_, rfl⟩
  | storeChecksComplete =>
    simp only [exec, execStoreChecksComplete]
    split
    · split_ifs <;> exact ⟨_, rfl⟩
    · exact ⟨_, rfl⟩
  | broadcastCommit p =>
    simp only [exec, execBroadcastCommit]
    split_ifs <;> exact ⟨_, rfl⟩
  | nodeReset broadcast seq p =>
    simp only [exec, execNodeReset]
    split_ifs
    · exact ⟨_, rfl⟩
    · exact ⟨_, rfl⟩
    · exact handOver_answers _ _ _ s
  | unknownCode | readInfo | readStatus | clearCounters | setNotifyMask | setTiming | editOpen
  | editCloseDiscard | editCloseKeep | editCloseCommit | sequencedCommit | setRegion | setPalette
  | setCue | readRegion | readPalette | readCue | ovlWrite | ovlFill | ovlCopy | ovlRead | setFence
  | readFence | readMeasure | setReport | cancel => exact handOver_answers _ _ _ s

/-- Settles O2: only the completion of a burst can fault, and it does so for its granted request. -/
theorem commandsAnswerAndLeaveQueue : Obligations.CommandsAnswerAndLeaveQueue := by
  unfold Obligations.CommandsAnswerAndLeaveQueue
  refine ⟨fun _ _ _ => exec_pending, fun c s => ?_⟩
  have hpast : ∀ {r : BurstRequest}, ¬ r.inStore = true → 1048576 < r.addr + r.len := fun h =>
    Nat.lt_of_not_le fun hle => h (decide_eq_true hle)
  by_cases hsf : c = .sfBurstComplete
  · subst hsf
    simp only [exec, execSfBurstComplete]
    split
    · rename_i r d hbusy
      split_ifs with hstore
      · exact .inl ⟨_, rfl⟩
      · exact .inr ⟨⟨.sf, r, d⟩, hbusy, hpast hstore, rfl, .inl ⟨rfl, trivial⟩⟩
    · exact .inl ⟨_, rfl⟩
  by_cases hce : c = .ceBurstComplete
  · subst hce
    simp only [exec, execCeBurstComplete]
    split
    · rename_i r d hbusy
      split_ifs with hstore
      · exact .inl ⟨_, rfl⟩
      · exact .inr ⟨⟨.ce, r, d⟩, hbusy, hpast hstore, rfl, .inr ⟨rfl, trivial⟩⟩
    · exact .inl ⟨_, rfl⟩
  exact .inl (exec_answers hsf hce s)

/-! ### A controller's commands -/

/-- A controller's sequenced command is handed over by its code and payload (R170, R197). -/
theorem exec_sequencedRow {seq code : Byte} {p : List Byte} {c : Instr}
    (h : sequencedRow seq code p = some c) (s : State) : exec c s = handOver seq code p s := by
  have hcode : BitVec.ofNat 8 code.toNat = code := by simp
  unfold sequencedRow at h
  split at h
  case h_7 hn =>
    rw [← hcode, hn]
    split_ifs at h <;> cases h <;> subst p <;> rfl
  case h_23 | h_24 => cases h
  case h_25 => cases h; rfl
  all_goals
    rename_i hn
    rw [← hcode, hn]
    cases h
    rfl

/-- What the commands of the engine leave: all but the blocks they serve, and of the RTU all but its
parameters and its count of lock losses (R99, R159, R179). -/
def ControllerFrame (s t : State) : Prop :=
  t = { s with ct := t.ct, rtu := t.rtu, sf := t.sf, os := t.os, mon := t.mon, mlu := t.mlu,
               ce := t.ce, nq := t.nq } ∧
  t.rtu = { s.rtu with params := t.rtu.params, lockLosses := t.rtu.lockLosses } ∧
  t.ct.activeSet = s.ct.activeSet ∧ t.mlu.address = s.mlu.address

theorem ControllerFrame.refl (s : State) : ControllerFrame s s := ⟨rfl, rfl, rfl, rfl⟩

/-- The rest of the state, field by field. -/
theorem ControllerFrame.of {s t : State}
    (hrest : t.pending = s.pending ∧ t.resetLow = s.resetLow ∧ t.now = s.now ∧ t.free = s.free ∧
      t.out = s.out ∧ t.comp = s.comp)
    (hrtu : s.rtu.Served t.rtu) (hrecords : RecordsKept s t) (haddress : t.mlu.address = s.mlu.address) :
    ControllerFrame s t := by
  obtain ⟨hpending, hreset, hnow, hfree, hout, hcomp⟩ := hrest
  refine ⟨?_, hrtu.1, hrecords.1, haddress⟩
  rw [← hpending, ← hreset, ← hnow, ← hfree, ← hout, ← hcomp]

theorem intakeBroadcast_frame (code : Byte) (p : List Byte) (s : State) :
    ControllerFrame s (intakeBroadcast code p s) :=
  .of (by simp) (intakeBroadcast_served code p s) (intakeBroadcast_recordsKept code p s) (by simp)

theorem handOver_frame {seq code : Byte} {p : List Byte} {s t : State}
    (h : handOver seq code p s = .next t) : ControllerFrame s t := by
  obtain rfl | rfl := handOver_next h
  · exact .refl _
  · exact .of (by simp) (intakeAddressed_served seq code p s) (intakeAddressed_recordsKept seq code p s)
      (by simp)

theorem exec_controllerFrame {c : Instr} {s t : State} (h : exec c s = .next t)
    (hc : (∃ seq code p, sequencedRow seq code p = some c) ∨ (∃ p, c = .broadcastCommit p) ∨
      (∃ seq p, c = .cancel seq p) ∨ (∃ b seq p, c = .nodeReset b seq p) ∨
      c = .ceBurstComplete ∨ c = .storeChecksComplete ∨ c = .commandBegin) : ControllerFrame s t := by
  have hrefl := ControllerFrame.refl s
  obtain ⟨seq, code, p, hrow⟩ | ⟨p, rfl⟩ | ⟨seq, p, rfl⟩ | ⟨b, seq, p, rfl⟩ | rfl | rfl | rfl := hc
  · exact handOver_frame ((exec_sequencedRow hrow s).symm.trans h)
  · simp only [exec, execBroadcastCommit] at h
    split_ifs at h <;> cases h
    · exact intakeBroadcast_frame _ p s
    · exact hrefl
  · exact handOver_frame h
  · simp only [exec, execNodeReset] at h
    split_ifs at h
    · cases h; exact intakeBroadcast_frame _ p s
    · cases h; exact hrefl
    · exact handOver_frame h
  · obtain rfl | ⟨r, d, -, -, rfl⟩ := exec_ceBurstComplete_cases h
    · exact hrefl
    · exact .of (by simp) (completeEngineBurst_served _ s) (completeEngineBurst_recordsKept _ s) (by simp)
  · simp only [exec, execStoreChecksComplete] at h
    split at h
    · rename_i op _
      split_ifs at h <;> cases h
      · exact hrefl
      · exact .of (by simp) (completeChecks_served op s) (completeChecks_recordsKept op s) (by simp)
    · cases h; exact hrefl
  · exact whileRunning_rel h hrefl
      (.of (by simp) (settleEngine_served s) (settleEngine_recordsKept s) (by simp))

/-! ### The other groups -/

theorem completeSpanBurst_frame (g : Grant) (s : State) :
    completeSpanBurst g s =
        { s with sf := (completeSpanBurst g s).sf, os := (completeSpanBurst g s).os } ∧
      (completeSpanBurst g s).os.op = s.os.op ∧ (completeSpanBurst g s).os.fences = s.os.fences ∧
      (completeSpanBurst g s).sf.showing = s.sf.showing := by
  refine ⟨?_, ?_, ?_, ?_⟩
  · simp only [completeSpanBurst, takeSpanOctets]
    split_ifs
    · rfl
    · split
      · split_ifs <;> rfl
      · rfl
  · obtain ⟨request, hos⟩ := completeSpanBurst_os g s
    simp [hos]
  · obtain ⟨request, hos⟩ := completeSpanBurst_os g s
    simp [hos]
  · simp only [completeSpanBurst, takeSpanOctets]
    split_ifs
    · simp
    · split
      · split_ifs <;> simp
      · simp

theorem offerWith_frame (frame : BitVec 16) (n : Notice) (s : State) :
    offerWith frame n s = { s with nq := (offerWith frame n s).nq } := by
  unfold offerWith
  split_ifs <;> rfl

theorem latchReport_frame (i : Nat) (m : Measurement) (s : State) :
    latchReport i m s = { s with mon := (latchReport i m s).mon, nq := (latchReport i m s).nq } := by
  simp only [latchReport]
  split_ifs
  · rfl
  · rw [offerWith_frame]; rfl
  · rfl

theorem expireAcquire_frame (due : Nat) (s : State) :
    let t := expireAcquire due s
    t = { s with now := t.now, rtu := t.rtu, mon := t.mon, nq := t.nq } := by
  intro t
  obtain ⟨hpending, hreset, hfree, hct, hout, hcomp, hsf, hos, hmlu, hce⟩ := expireAcquire_keeps due s
  rw [← hpending, ← hreset, ← hfree, ← hct, ← hout, ← hcomp, ← hsf, ← hos, ← hmlu, ← hce]

theorem takePixelWord_frame (bits : BitVec 31) (s : State) :
    let t := takePixelWord bits s
    t = { s with free := t.free, ct := t.ct, rtu := t.rtu, sf := t.sf, os := t.os, mon := t.mon,
                 mlu := t.mlu, ce := t.ce, nq := t.nq } ∧ t.ct.activeSet = s.ct.activeSet := by
  intro t
  obtain ⟨hpending, hreset, hnow, hout, hcomp⟩ := takePixelWord_keeps bits s
  refine ⟨?_, (takePixelWord_recordsKept bits s).1⟩
  rw [← hpending, ← hreset, ← hnow, ← hout, ← hcomp]

/-- What every start of a line leaves: RESET, a clock that does not turn back, the node address and a
running clearing (log 4). -/
structure LineFrame (s t : State) : Prop where
  reset : t.resetLow = s.resetLow
  now : s.now ≤ t.now
  address : t.mlu.address = s.mlu.address
  clearing : t.os.clearing = s.os.clearing

theorem LineFrame.refl (s : State) : LineFrame s s := ⟨rfl, le_rfl, rfl, rfl⟩

theorem takeLineStart_lineFrame (bits : BitVec 31) (clock : Nat) (s : State) :
    LineFrame s (takeLineStart bits clock s) where
  reset := by simp
  now := by rw [takeLineStart_now]; exact le_max_left _ _
  address := takeLineStart_address bits clock s
  clearing := (takeLineStart_storeRun bits clock s).cells.2

theorem nextInternalFrame_now (s : State) : s.now ≤ (nextInternalFrame s).now := by
  simp only [nextInternalFrame]
  split_ifs <;> simp

theorem nextInternalFrame_lineFrame (s : State) : LineFrame s (nextInternalFrame s) where
  reset := by simp
  now := nextInternalFrame_now s
  address := nextInternalFrame_address s
  clearing := (nextInternalFrame_storeRun s).cells.2

theorem paceInternal_lineFrame (s : State) : LineFrame s (paceInternal s) where
  reset := by simp
  now := by
    simp only [paceInternal]
    split_ifs
    · exact le_rfl
    · exact nextInternalFrame_now s
    · simp
  address := paceInternal_address s
  clearing := (paceInternal_storeRun s).cells.2

theorem expireFlywheel_lineFrame (due : Nat) (s : State) : LineFrame s (expireFlywheel due s) where
  reset := by simp
  now := by
    simp only [expireFlywheel]
    split_ifs <;> simp
  address := expireFlywheel_address due s
  clearing := (expireFlywheel_storeRun due s).cells.2

theorem exec_lineFrame {c : Instr} {s t : State} (h : exec c s = .next t)
    (hc : (∃ bits clock, c = .inputLineStart bits clock) ∨ c = .internalLineStart ∨
      c = .flywheelExpiry ∨ c = .holdoverLimit) : LineFrame s t := by
  have hrefl := LineFrame.refl s
  obtain ⟨bits, clock, rfl⟩ | rfl | rfl | rfl := hc
  · exact whileRunning_rel h hrefl (takeLineStart_lineFrame bits clock s)
  · exact whileRunning_rel h hrefl (paceInternal_lineFrame s)
  · simp only [exec, execFlywheelExpiry] at h
    split at h
    · exact whileRunning_rel h hrefl (expireFlywheel_lineFrame _ s)
    · cases h; exact hrefl
  · simp only [exec, execHoldoverLimit] at h
    split_ifs at h
    · exact whileRunning_rel h hrefl (nextInternalFrame_lineFrame s)
    · cases h; exact hrefl

/-- Settles O3: each group's frame by its own lemma. -/
theorem commandsTouchOnlyTheirBlocks : Obligations.CommandsTouchOnlyTheirBlocks := by
  unfold Obligations.CommandsTouchOnlyTheirBlocks
  intro c s t h
  refine ⟨fun hpower hpin hburst => exec_cells hpower hpin hburst h, exec_controllerFrame h,
    ?span, ?acquire, ?edit, ?report, ?word, fun hc => ?line⟩
  case span =>
    rintro rfl
    simp only [exec, execSfBurstComplete] at h
    split at h
    · split_ifs at h
      cases h
      exact completeSpanBurst_frame _ s
    · cases h; exact ⟨rfl, rfl, rfl, rfl⟩
  case acquire =>
    rintro rfl
    simp only [exec, execAcquireTimerExpiry] at h
    split at h
    · obtain rfl | rfl := whileRunning_next h
      · rfl
      · exact expireAcquire_frame _ s
    · cases h; rfl
  case edit =>
    rintro rfl
    simp only [exec, execEditExpiry] at h
    split_ifs at h
    · obtain rfl | rfl := whileRunning_next h
      · rfl
      · simp only [expireEdit, offer]
        rw [offerWith_frame]
        rfl
    · cases h; rfl
  case report =>
    rintro i rfl
    simp only [exec, execReportCountdown] at h
    split at h
    · split_ifs at h
      · obtain rfl | rfl := whileRunning_next h
        · rfl
        · exact latchReport_frame _ _ s
      · cases h; rfl
    · cases h; rfl
  case word =>
    rintro bits rfl
    obtain rfl | rfl := whileRunning_next h
    · exact ⟨rfl, rfl⟩
    · exact takePixelWord_frame bits s
  case line =>
    obtain ⟨hreset, hnow, haddress, hclearing⟩ := exec_lineFrame h hc
    exact ⟨hreset, hnow, haddress, hclearing⟩

end Sys2Proof.Machine
end

section
/-! Store commands at their beginning, the reads of fences and monitors, and one write burst (R97, R99, R100,
R104 to R115, R135, R181). -/

namespace Sys2Proof.Machine

/-! ### The clearing -/

/-- Settles O17: an addressed row finds the part not addressable. -/
theorem clearingDoneOpensIntake : Obligations.ClearingDoneOpensIntake := by
  unfold Obligations.ClearingDoneOpensIntake
  refine ⟨fun _ => rfl, fun s seq code p i hclosed hrow => ?_⟩
  have hunreachable : s.addressable = false := by
    refine Bool.eq_false_iff.2 fun haddressable => ?_
    obtain ⟨-, hclear, hfirst, -⟩ := addressable_iff.1 haddressable
    obtain hclearing | haddress := hclosed
    · simp [hclear] at hclearing
    · omega
  obtain hrow | rfl | rfl := hrow
  · rw [exec_sequencedRow hrow]
    exact handOver_unreachable hunreachable
  · exact handOver_unreachable hunreachable
  · exact handOver_unreachable hunreachable

/-! ### Views in a payload -/

/-- Base, pitch and point as a payload carries them (R197). -/
def View.octets (v : View) : List Byte :=
  toOctets 3 v.base ++ toOctets 2 v.pitch ++ toOctets 2 v.x ++ toOctets 2 v.y

/-- The octets of a payload can carry the view. -/
def View.Fits (v : View) : Prop := v.base < 16777216 ∧ v.pitch < 65536 ∧ v.x < 65536 ∧ v.y < 65536

@[simp] theorem View.octets_length (v : View) : v.octets.length = 9 := by simp [View.octets]

theorem fieldAt_past_list (a p : List Byte) (o n : Nat) :
    fieldAt (a ++ p) (o + a.length) n = fieldAt p o n := by
  rw [fieldAt, List.drop_append, List.drop_of_length_le (by omega), List.nil_append,
    Nat.add_sub_cancel, fieldAt]

theorem fieldAt_past_view (v : View) (p : List Byte) (o n : Nat) :
    fieldAt (v.octets ++ p) (o + 9) n = fieldAt p o n := by
  simpa using fieldAt_past_list v.octets p o n

theorem viewAt_past_view (v : View) (p : List Byte) : viewAt (v.octets ++ p) 9 = viewAt p 0 := by
  simp only [viewAt, View.mk.injEq]
  exact ⟨fieldAt_past_view v p 0 3, fieldAt_past_view v p 3 2, fieldAt_past_view v p 5 2,
    fieldAt_past_view v p 7 2⟩

theorem viewAt_octets {v : View} (h : v.Fits) (p : List Byte) : viewAt (v.octets ++ p) 0 = v := by
  obtain ⟨base, pitch, x, y⟩ := v
  obtain ⟨hbase, hpitch, hx, hy⟩ := h
  simp only [View.octets, List.append_assoc, viewAt, Nat.zero_add, View.mk.injEq]
  refine ⟨fieldAt_front hbase _, ?_, ?_, ?_⟩
  · rw [fieldAt_past_three _ _ 0]
    exact fieldAt_front hpitch _
  · rw [fieldAt_past_three _ _ 2, fieldAt_past_two _ _ 0]
    exact fieldAt_front hx _
  · rw [fieldAt_past_three _ _ 4, fieldAt_past_two _ _ 2, fieldAt_past_two _ _ 0]
    exact fieldAt_front hy _

/-! ### Store commands begin -/

/-- A store command that the engine takes at once enters CHECKING and stays (R100, R172). -/
theorem handOver_store {s : State} {seq code : Byte} {p : List Byte} {c : Command} {params : StoreParams}
    (h : Ready seq s) (hc : Command.ofCode code = some c) (hp : c.admits p.length = true)
    (hrun : ∀ x, c.run p x = runStore params x) :
    handOver seq code p s = .next (State.executing { s with os := { s.os with
      op := some (.checking params) } } seq code p .store) :=
  handOver_stays (e := s.withOs { s.os with op := some (.checking params) }) h hc hp (by rw [hrun]; rfl)

/-- Settles O44: the fields of each payload are those it was made of. -/
theorem storeCommandsEnterChecking : Obligations.StoreCommandsEnterChecking := by
  unfold Obligations.StoreCommandsEnterChecking
  intro s seq v u w h index indices head tail hready hv1 hv2 hv3 hv4 hu1 hu2 hu3 hu4 hw hh hhead htail
  have hv : v.Fits := ⟨hv1, hv2, hv3, hv4⟩
  have hu : u.Fits := ⟨hu1, hu2, hu3, hu4⟩
  obtain rfl : head = v.octets := hhead
  obtain rfl : tail = u.octets := htail
  refine ⟨fun hfirst hlast => ?write, ?fill, ?copy, ?read⟩
  case write =>
    refine handOver_store (c := .ovlWrite) hready rfl ?_ fun x => ?_
    · simp only [Command.admits, List.length_append, View.octets_length, decide_eq_true_eq]
      omega
    · have hdrop : (v.octets ++ indices).drop 9 = indices := List.drop_left' (by simp)
      simp [Command.run, writeParams, viewAt_octets hv, hdrop]
  case fill =>
    refine handOver_store (c := .ovlFill) hready rfl (by simp [Command.admits]) fun x => ?_
    have hwidth : fieldAt (v.octets ++ (toOctets 2 w ++ (toOctets 2 h ++ [index]))) 9 2 = w := by
      rw [fieldAt_past_view v _ 0]
      exact fieldAt_front hw _
    have hheight : fieldAt (v.octets ++ (toOctets 2 w ++ (toOctets 2 h ++ [index]))) 11 2 = h := by
      rw [fieldAt_past_view v _ 2, fieldAt_past_two _ _ 0]
      exact fieldAt_front hh _
    have hindex : octetAt (v.octets ++ (toOctets 2 w ++ (toOctets 2 h ++ [index]))) 13 = index := by
      simp [octetAt, List.getD_eq_getElem?_getD]
    simp [Command.run, fillParams, viewAt_octets hv, hwidth, hheight, hindex]
  case copy =>
    refine handOver_store (c := .ovlCopy) hready rfl (by simp [Command.admits]) fun x => ?_
    have hwidth : fieldAt (v.octets ++ (u.octets ++ (toOctets 2 w ++ toOctets 2 h))) 18 2 = w := by
      rw [fieldAt_past_view v _ 9, fieldAt_past_view u _ 0]
      exact fieldAt_front hw _
    have hheight : fieldAt (v.octets ++ (u.octets ++ (toOctets 2 w ++ toOctets 2 h))) 20 2 = h := by
      rw [fieldAt_past_view v _ 11, fieldAt_past_view u _ 2, fieldAt_past_two _ _ 0,
        ← List.append_nil (toOctets 2 h)]
      exact fieldAt_front hh _
    simp [Command.run, copyParams, viewAt_octets hv, viewAt_past_view, viewAt_octets hu, hwidth, hheight]
  case read =>
    refine handOver_store (c := .ovlRead) hready rfl (by simp [Command.admits]) fun x => ?_
    have hcount : fieldAt (v.octets ++ [index]) 9 1 = index.toNat := by
      rw [fieldAt_past_view v _ 0, fieldAt_single]
    simp [Command.run, readParams, viewAt_octets hv, hcount]

/-! ### READ_FENCE and READ_MEASURE -/

/-- A read of a record with a legal index is answered with its octets. -/
theorem handOver_recordRead {s : State} {seq code : Byte} {i bound : Nat} {c : Command}
    {data : State → List Byte} (h : Ready seq s) (hc : Command.ofCode code = some c)
    (hp : c.admits 1 = true) (hi : i ≤ bound) (hbound : bound < 256)
    (hrun : ∀ x, c.run [octet i] x =
      checked [(decide (fieldAt [octet i] 0 1 ≤ bound), 0)] (fun y => (y, .done .ok (data y))) x)
    (hdata : data (s.accepted seq) = data s) :
    handOver seq code [octet i] s = .next (s.answered seq code .ok (data s)) := by
  have hindex : fieldAt [octet i] 0 1 = i := fieldAt_octet (by omega) []
  refine handOver_done (c := c) h hc hp ?_
  rw [hrun, checked_pass (by simp [hindex, hi]), hdata]

theorem Level.code_lt (l : Level) : l.code < 4 := by cases l <;> decide

/-- What the fields of READ_MEASURE's data hold (R198). -/
structure ReportData (m : Monitor) (data : List Byte) : Prop where
  length : data.length = 28
  level : fieldAt data 26 1 = m.level.code
  stillness : m.stillness ≤ 255 → fieldAt data 27 1 = m.stillness

/-- The two last octets of the data stand behind the 26 of the record. -/
theorem Monitor.reportOctets_data (m : Monitor) : ReportData m m.reportOctets := by
  obtain ⟨front, hfront, hlength⟩ : ∃ front : List Byte,
      m.reportOctets = front ++ [octet m.level.code, octet m.stillness] ∧ front.length = 26 :=
    ⟨_, rfl, by simp [Measurement.octets]⟩
  have hlevel := m.level.code_lt
  have hpast := fieldAt_past_list front [octet m.level.code, octet m.stillness]
  rw [hlength] at hpast
  rw [hfront]
  constructor
  case length => simp [hlength]
  case level => exact (hpast 0 1).trans (fieldAt_octet (by omega) _)
  case stillness =>
    intro hstill
    rw [hpast 1 1, fieldAt_cons _ _ 0]
    exact fieldAt_octet (by omega) _

/-- Without a record the data begins with 26 zeros. -/
theorem Monitor.reportOctets_none {m : Monitor} (h : m.record = none) {k : Nat} (hk : k < 26) :
    m.reportOctets.getD k 0 = 0 := by
  have hfront : m.reportOctets =
      List.replicate 26 0 ++ [octet m.level.code, octet m.stillness] := by
    simp only [Monitor.reportOctets, h]
    rfl
  have hfirst : k < (List.replicate 26 (0 : Byte)).length := by rwa [List.length_replicate]
  rw [hfront, List.getD_append _ _ _ _ hfirst, List.getD_eq_getElem _ _ hfirst, List.getElem_replicate]

/-- The fields of a record that was formed. -/
theorem Monitor.reportOctets_some {m : Monitor} {r : Measurement} (h : m.record = some r)
    (hcount : r.count ≤ 16777216) (hsum : r.sum ≤ 17163091968) (hmin : r.min ≤ 1023)
    (hmax : r.max ≤ 1023) (hmean : r.mean.getD 0 ≤ 1023) :
    fieldAt m.reportOctets 0 1 = 1 ∧ fieldAt m.reportOctets 1 2 = r.frame.toNat ∧
    fieldAt m.reportOctets 3 8 = r.count ∧ fieldAt m.reportOctets 11 8 = r.sum ∧
    fieldAt m.reportOctets 19 2 = r.min ∧ fieldAt m.reportOctets 21 2 = r.max ∧
    fieldAt m.reportOctets 23 1 = flagCode r.mean.isSome ∧
    fieldAt m.reportOctets 24 2 = r.mean.getD 0 := by
  have hframe := r.frame.isLt
  have hflag := flagCode_le r.mean.isSome
  have hoctets : m.reportOctets = octet 1 :: (toOctets 2 r.frame.toNat ++ (toOctets 8 r.count ++
      (toOctets 8 r.sum ++ (toOctets 2 r.min ++ (toOctets 2 r.max ++
      octet (flagCode r.mean.isSome) :: (toOctets 2 (r.mean.getD 0) ++
      [octet m.level.code, octet m.stillness])))))) := by
    simp [Monitor.reportOctets, h, Measurement.octets, flagCode]
  have hpast8 : ∀ v p o n, fieldAt (toOctets 8 v ++ p) (o + 8) n = fieldAt p o n := fieldAt_past 8
  rw [hoctets]
  refine ⟨fieldAt_octet (by decide) _, ?frame, ?count, ?sum, ?min, ?max, ?flag, ?mean⟩
  all_goals simp only [fieldAt_cons, fieldAt_past_two, hpast8]
  case flag => exact fieldAt_octet (by omega) _
  all_goals exact fieldAt_front (by omega) _

/-- Settles O49: both reads answer the octets of the record held. -/
theorem fenceAndMeasureReads : Obligations.FenceAndMeasureReads := by
  unfold Obligations.FenceAndMeasureReads
  intro s seq i hready
  refine ⟨fun f hf hi => ?fence, fun m hm hi => ⟨m.reportOctets, ?read, ?fields⟩⟩
  case fence =>
    have hheld : s.os.fences.getD i .default = f := by
      simp [List.getD_eq_getElem?_getD, Option.mem_def.1 hf]
    have hindex : fieldAt [octet i] 0 1 = i := fieldAt_octet (by omega) []
    rw [← hheld]
    refine handOver_recordRead (c := .readFence) (bound := 3)
      (data := fun x => (x.os.fences.getD i .default).octets) hready rfl rfl (by omega) (by decide)
      (fun x => ?_) rfl
    simp only [Command.run, runReadFence, hindex]
  case read =>
    have hheld : s.mon.monitor i = m := by
      simp [RegionMonitor.monitor, List.getD_eq_getElem?_getD, Option.mem_def.1 hm]
    have hindex : fieldAt [octet i] 0 1 = i := fieldAt_octet (by omega) []
    rw [← hheld]
    refine handOver_recordRead (c := .readMeasure) (bound := 15)
      (data := fun x => (x.mon.monitor i).reportOctets) hready rfl rfl (by omega) (by decide)
      (fun x => ?_) rfl
    simp only [Command.run, runReadMeasure, hindex]
  case fields =>
    obtain ⟨hlength, hlevel, hstill⟩ := m.reportOctets_data
    exact ⟨hlength, hlevel, hstill, fun hnone _ => m.reportOctets_none hnone,
      fun r hr hcount hsum hmin hmax hmean =>
        m.reportOctets_some hr hcount hsum hmin hmax hmean⟩

/-! ### One write burst -/

/-- What a completion leaves with no command waiting: the Span Fetcher, the fences and the octets. -/
structure StoreSettled (s t : State) : Prop where
  sf : t.sf = s.sf
  fences : t.os.fences = s.os.fences
  cells : t.os.cells = s.os.cells

/-- With no command waiting a CANCEL that completes leaves the store and the Span Fetcher. -/
theorem completeCancel_settled (c : CancelWait) (d : List Byte) {s : State} (h : s.ce.queue = []) :
    StoreSettled s (completeCancel c d s) := by
  have hqueue : (completeCommand .cancelled d s).ce.queue = [] := by
    simp only [completeCommand]
    split
    · split_ifs <;> exact h
    · exact h
  obtain ⟨-, -, hempty, -, -⟩ := answers_cancelled c.removed (completeCommand .cancelled d s)
  simp only [completeCancel]
  rw [settleEngine_empty (by exact hempty.trans hqueue)]
  constructor <;> simp

theorem endOperation_settled (op : StoreOp) {s : State} (h : s.ce.queue = []) :
    StoreSettled s (endOperation op s) := by
  simp only [endOperation]
  split
  · obtain ⟨hsf, hfences, hcells⟩ := completeCancel_settled _ (cancelledData (some op))
      (s := emptyRecord s) h
    exact ⟨hsf, hfences, hcells⟩
  · rw [settleEngine_empty (by exact h)]
    exact ⟨rfl, rfl, rfl⟩

theorem advanceOperation_settled (op : StoreOp) {s : State} (h : s.ce.queue = []) :
    StoreSettled s (advanceOperation op s) := by
  simp only [advanceOperation]
  split
  · exact ⟨rfl, rfl, rfl⟩
  · have hqueue : ∀ d, (completeCommand .ok d (emptyRecord s)).ce.queue = [] := fun d => by
      simp only [completeCommand]
      split
      · split_ifs <;> exact h
      · exact h
    simp only [finishOperation]
    rw [settleEngine_empty (hqueue _)]
    constructor <;> simp [emptyRecord]

theorem completeWrite_settled (op : StoreOp) (r : BurstRequest) {s : State} (h : s.ce.queue = []) :
    StoreSettled (s.withOs { s.os with
      cells := Memory.writeMasked (clippedBy op.fences) s.os.cells r.addr (op.burstData r.len) })
      (completeWrite op r s) := by
  simp only [completeWrite]
  split_ifs
  · exact endOperation_settled _ h
  · exact advanceOperation_settled _ h

/-- Settles O48: the burst's octets enter the store but for those it masks, and what follows the burst
leaves them. -/
theorem engineWriteBurstCompletes : Obligations.EngineWriteBurstCompletes := by
  unfold Obligations.EngineWriteBurstCompletes
  intro s op r discard hwf hop hbusy hwrite hstore hqueue
  obtain ⟨hsf, hfences, hcells⟩ := completeWrite_settled op r
    (s := s.withOs { s.os with busy := none }) hqueue
  refine ⟨_, exec_ceBurst_write hbusy hop hwrite hstore, ?_, ?_, fun a => ?_⟩
  · simpa using hsf
  · simpa [grantStore] using hfences
  · simp only [grantStore, State.withOs_os, OverlayStore.grant_cells, hcells]
    exact Memory.read_writeMasked _ hwf _ _ a

end Sys2Proof.Machine
end

section
/-! The checks of a store command (R102, R103, R107, R108, R110, R112, R113, R115). -/

namespace Sys2Proof.Machine

/-! ### Groups 1 and 2: the fields -/

theorem firstFailing_cons (passes : Bool) (o : Nat) (checks : List (Bool × Nat)) :
    firstFailing ((passes, o) :: checks) = if passes then firstFailing checks else some o := rfl

theorem firstFailing_append (xs ys : List (Bool × Nat)) :
    firstFailing (xs ++ ys) = (firstFailing xs).or (firstFailing ys) := by
  induction xs with
  | nil => rfl
  | cons x xs ih =>
    obtain ⟨passes, o⟩ := x
    rw [List.cons_append, firstFailing_cons, firstFailing_cons, ih]
    split_ifs <;> rfl

/-- The same choice spelled from the passing side and from the failing side. -/
theorem ite_passes {passes : Bool} {fails : Prop} [Decidable fails] (h : passes = true ↔ ¬ fails)
    (o : Nat) (rest : Option Nat) :
    (if passes then rest else some o) = if fails then some o else rest := by
  by_cases hf : fails
  · rw [if_pos hf, if_neg (by simp [h, hf])]
  · rw [if_neg hf, if_pos (by simp [h, hf])]

theorem between_iff {n m : Nat} :
    (decide (1 ≤ n) && decide (n ≤ m)) = true ↔ ¬ (n < 1 ∨ m < n) := by
  simp only [Bool.and_eq_true, decide_eq_true_eq]
  omega

theorem firstFailing_viewChecks (v : View) (o : Nat) : firstFailing (viewChecks v o) = v.fault o := by
  simp only [viewChecks, firstFailing_cons, View.fault]
  rw [ite_passes (fails := 1048575 < v.base) (by simp),
    ite_passes (fails := v.pitch < 1 ∨ 4096 < v.pitch) between_iff,
    ite_passes (fails := 4095 < v.x) (by simp), ite_passes (fails := 4095 < v.y) (by simp)]
  rfl

theorem sizeLegal_iff {n : Nat} : sizeLegal n = true ↔ ¬ (n < 1 ∨ 4096 < n) := between_iff

/-- The offset of the first failing field is the one that the statement spells. -/
theorem StoreParams.firstFailing_fieldChecks (p : StoreParams) : firstFailing p.fieldChecks = p.fault := by
  cases p with
  | write v indices => exact firstFailing_viewChecks v 0
  | fill v w h index =>
    simp only [StoreParams.fieldChecks, StoreParams.fault, firstFailing_append, firstFailing_viewChecks,
      firstFailing_cons]
    rw [ite_passes sizeLegal_iff, ite_passes sizeLegal_iff,
      ite_passes (fails := v.pitch < v.x + w) (by simp)]
    rfl
  | copy src dst w h =>
    simp only [StoreParams.fieldChecks, StoreParams.fault, firstFailing_append, firstFailing_viewChecks,
      firstFailing_cons]
    rw [ite_passes sizeLegal_iff, ite_passes sizeLegal_iff,
      ite_passes (fails := src.pitch < src.x + w) (by simp),
      ite_passes (fails := dst.pitch < dst.x + w) (by simp)]
    rfl
  | read v count =>
    simp only [StoreParams.fieldChecks, StoreParams.fault, firstFailing_append, firstFailing_viewChecks,
      firstFailing_cons]
    rw [ite_passes (fails := count < 1 ∨ 200 < count) between_iff]
    rfl

/-- With no field at fault the other groups decide (R107). -/
theorem StoreParams.refusal_eq {p : StoreParams} (fences : List Fence) (h : p.fault = none) :
    p.refusal fences =
      if p.inStore = false then some (.outOfRange, [])
      else if p.overlaps then some (.overlap, [])
      else (p.fencedBy fences).map fun i => (.fenced, [octet i]) := by
  simp only [StoreParams.refusal, p.firstFailing_fieldChecks, h, Bool.not_eq_true']
  split_ifs
  · rfl
  · rfl
  · cases p.fencedBy fences <;> rfl

/-- What passes every group: no field at fault, both sides in the store, no overlap. -/
theorem StoreParams.passed {p : StoreParams} {fences : List Fence} (h : p.refusal fences = none) :
    p.fault = none ∧ p.inStore = true ∧ ¬ p.overlaps = true := by
  cases hfault : p.fault with
  | some o => simp [StoreParams.refusal, p.firstFailing_fieldChecks, hfault] at h
  | none =>
    rw [StoreParams.refusal_eq fences hfault] at h
    split_ifs at h with hstore hover
    exact ⟨rfl, by simpa using hstore, hover⟩

theorem StoreParams.height_pos {p : StoreParams} (h : p.fault = none) : 0 < p.height := by
  cases p with
  | write | read => exact Nat.one_pos
  | fill v w h' index | copy src dst w h' =>
    simp only [StoreParams.fault, Option.or_eq_none_iff] at h
    obtain ⟨-, h⟩ := h
    split_ifs at h with hw hh
    all_goals
      simp only [StoreParams.height]
      omega

/-! ### Group 3: the store's addresses -/

/-- The last point of a side has the highest address. -/
theorem View.at_le_at (v : View) {r c h w : Nat} (hr : r < h) (hc : c < w) :
    v.at r c ≤ v.at (h - 1) (w - 1) := by
  have hrow : (v.y + r) * v.pitch ≤ (v.y + (h - 1)) * v.pitch := Nat.mul_le_mul_right _ (by omega)
  simp only [View.at]
  omega

theorem StoreParams.inStore_iff {p : StoreParams} (hheight : 0 < p.height) (hwidth : 0 < p.width) :
    p.inStore = true ↔ ∀ r < p.height, ∀ c < p.width,
      p.origin.at r c ≤ 1048575 ∧ p.target.at r c ≤ 1048575 := by
  refine decide_eq_true_iff.trans ⟨?_, ?_⟩
  · rintro ⟨horigin, htarget⟩ r hr c hc
    exact ⟨(View.at_le_at _ hr hc).trans horigin, (View.at_le_at _ hr hc).trans htarget⟩
  · exact fun h => h _ (by omega) _ (by omega)

/-! ### Group 4: overlap -/

theorem StoreParams.overlaps_iff {p : StoreParams} : p.overlaps = true ↔
    ∃ src dst w h, p = .copy src dst w h ∧ src.pitch ≠ dst.pitch ∧
      src.at 0 0 ≤ dst.at (h - 1) (w - 1) ∧ dst.at 0 0 ≤ src.at (h - 1) (w - 1) := by
  cases p with
  | copy src dst w h =>
    refine decide_eq_true_iff.trans ⟨fun hover => ⟨src, dst, w, h, rfl, hover⟩, ?_⟩
    rintro ⟨_, _, _, _, heq, hover⟩
    cases heq
    exact hover
  | write | fill | read => simp [StoreParams.overlaps]

/-! ### Group 5: fences -/

theorem Fence.contains_iff {f : Fence} {a : Nat} : f.contains a = true ↔ f.Covers a := by
  simp only [Fence.contains, Fence.Covers, decide_eq_true_eq]
  tauto

theorem StoreParams.anyTarget_iff {p : StoreParams} {f : Nat → Bool} : p.anyTarget f = true ↔
    ∃ r < p.height, ∃ c < p.width, f (p.target.at r c) = true := by
  simp [StoreParams.anyTarget]

theorem StoreParams.rejectedBy_iff {p : StoreParams} {f : Fence} (hwrites : p.writes = true) :
    (decide (f.mode = .reject) && p.anyTarget f.contains) = true ↔ p.rejectedBy f := by
  simp only [StoreParams.rejectedBy, hwrites, true_and, Bool.and_eq_true, decide_eq_true_eq,
    StoreParams.anyTarget_iff, Fence.contains_iff]

/-- The first REJECT fence met, by its index. -/
theorem StoreParams.fencedBy_some {p : StoreParams} {fences : List Fence} {i : Nat} {f : Fence}
    (hf : fences[i]? = some f) (hrejects : p.rejectedBy f)
    (hfirst : ∀ k < i, ∀ g ∈ fences[k]?, ¬ p.rejectedBy g) : p.fencedBy fences = some i := by
  have hwrites := hrejects.1
  have hi : i < fences.length := (List.getElem?_eq_some_iff.1 hf).1
  rw [StoreParams.fencedBy, if_pos hwrites, List.find?_range_eq_some]
  refine ⟨?_, List.mem_range.2 hi, fun k hk => ?_⟩
  · rw [List.getD_eq_getElem?_getD, hf]
    exact (StoreParams.rejectedBy_iff hwrites).2 hrejects
  · have hget : fences[k]? = some (fences[k]'(by omega)) := List.getElem?_eq_getElem _
    have hpasses := hfirst k hk _ hget
    rw [List.getD_eq_getElem?_getD, hget, Bool.not_eq_true', Bool.eq_false_iff]
    exact fun hany => hpasses ((StoreParams.rejectedBy_iff hwrites).1 hany)

theorem StoreParams.fencedBy_none {p : StoreParams} {fences : List Fence}
    (h : ∀ f ∈ fences, ¬ p.rejectedBy f) : p.fencedBy fences = none := by
  unfold StoreParams.fencedBy
  split_ifs with hwrites
  · rw [List.find?_eq_none]
    intro i hi hany
    have hlt := List.mem_range.1 hi
    rw [List.getD_eq_getElem _ _ hlt] at hany
    exact h _ (List.getElem_mem hlt) ((StoreParams.rejectedBy_iff hwrites).1 hany)
  · rfl

/-! ### The checks and the refusal's answer -/

/-- The refusal of a store command's checks, group by group. -/
theorem StoreParams.checks_decide (p : StoreParams) (fences : List Fence) :
    (∀ o, p.fault = some o → p.refusal fences = some (.badField, [octet o])) ∧
    (p.fault = none → 0 < p.width →
      ((∃ r < p.height, ∃ c < p.width, 1048575 < p.origin.at r c ∨ 1048575 < p.target.at r c) →
        p.refusal fences = some (.outOfRange, [])) ∧
      ((∀ r < p.height, ∀ c < p.width, p.origin.at r c ≤ 1048575 ∧ p.target.at r c ≤ 1048575) →
        (∀ src dst w h, p = .copy src dst w h → src.pitch ≠ dst.pitch →
          src.at 0 0 ≤ dst.at (h - 1) (w - 1) → dst.at 0 0 ≤ src.at (h - 1) (w - 1) →
          p.refusal fences = some (.overlap, [])) ∧
        ((∀ src dst w h, p = .copy src dst w h → src.pitch ≠ dst.pitch →
            dst.at (h - 1) (w - 1) < src.at 0 0 ∨ src.at (h - 1) (w - 1) < dst.at 0 0) →
          (∀ i, ∀ f ∈ fences[i]?, p.rejectedBy f →
            (∀ k < i, ∀ g ∈ fences[k]?, ¬ p.rejectedBy g) →
            p.refusal fences = some (.fenced, [octet i])) ∧
          ((∀ f ∈ fences, ¬ p.rejectedBy f) → p.refusal fences = none)))) := by
  refine ⟨fun o hfault => ?_, fun hfault hwidth => ?_⟩
  · simp [StoreParams.refusal, p.firstFailing_fieldChecks, hfault]
  have hrefusal := p.refusal_eq fences hfault
  have hstore := p.inStore_iff (StoreParams.height_pos hfault) hwidth
  refine ⟨?range, fun hinside => ⟨?overlap, fun hdisjoint => ?fences⟩⟩
  case range =>
    rintro ⟨r, hr, c, hc, hout⟩
    rw [hrefusal, if_pos]
    refine Bool.eq_false_iff.2 fun hin => ?_
    have := hstore.1 hin r hr c hc
    omega
  all_goals rw [hrefusal, if_neg (by simp [hstore.2 hinside])]
  case overlap =>
    intro src dst w h hp hpitch hlow hhigh
    rw [if_pos (StoreParams.overlaps_iff.2 ⟨src, dst, w, h, hp, hpitch, hlow, hhigh⟩)]
  case fences =>
    have hapart : ¬ p.overlaps = true := fun hover => by
      obtain ⟨src, dst, w, h, hp, hpitch, hlow, hhigh⟩ := StoreParams.overlaps_iff.1 hover
      have := hdisjoint src dst w h hp hpitch
      omega
    rw [if_neg hapart]
    exact ⟨fun i f hf hrejects hfirst => by rw [StoreParams.fencedBy_some hf hrejects hfirst]; rfl,
      fun hpasses => by rw [StoreParams.fencedBy_none hpasses]; rfl⟩

/-- A store command that fails its checks is answered with its refusal (R107). -/
theorem exec_storeChecks_refused {s : State} {op : StoreOp} {q : Queued} {status : Status}
    {data : List Byte} (hop : s.os.op = some op) (hrun : op.running = false)
    (hexec : s.ce.exec = some ⟨q, .store⟩) (hq : q.sequenced = true) (hqueue : s.ce.queue = [])
    (hrefused : op.params.refusal s.os.fences = some (status, data)) :
    exec .storeChecksComplete s =
      .next (State.completed { s with os := { s.os with op := none } } q status data) := by
  have hanswer : completeCommand status data (emptyRecord s) = (emptyRecord s).completed q status data :=
    completeCommand_sequenced hexec hq
  simp only [exec, execStoreChecksComplete, hop, hrun, Bool.false_eq_true, if_false, completeChecks,
    hrefused, hanswer]
  rw [settleEngine_empty (by exact hqueue)]
  rfl

/-- Settles O45: the groups in their order, then the refusal's answer. -/
theorem checksDecideStoreOperation : Obligations.ChecksDecideStoreOperation := by
  unfold Obligations.ChecksDecideStoreOperation
  exact ⟨StoreParams.checks_decide, fun _ _ _ _ _ hop hrun hexec hq hqueue hrefused =>
    exec_storeChecks_refused hop hrun hexec hq hqueue hrefused⟩

end Sys2Proof.Machine
end

section
/-! A store operation that has the store to itself: its bursts one after another, and the whole of a read
(R98, R99, R104, R107, R109, R114 to R116). -/

namespace Sys2Proof.Machine

/-! ### The engine alone at the store -/

/-- The state with other octets in the store. -/
def State.storing (s : State) (cells : Memory) : State := s.withOs { s.os with cells := cells }

/-- The operation stands in the record with a burst of it granted. -/
def State.bursting (s : State) (op : StoreOp) (r : BurstRequest) : State :=
  s.withOs { s.os with op := some op, busy := some ⟨.ce, r, false⟩ }

/-- A sequenced store command is in execution, no command waits and no burst waits or runs; the record is
taken as empty. -/
structure StoreAlone (s : State) (q : Queued) : Prop where
  op : s.os.op = none
  sfWaiting : s.os.sfWaiting = none
  ceWaiting : s.os.ceWaiting = none
  busy : s.os.busy = none
  exec : s.ce.exec = some ⟨q, .store⟩
  sequenced : q.sequenced = true
  queue : s.ce.queue = []

theorem StoreAlone.storing {s : State} {q : Queued} (h : StoreAlone s q) (cells : Memory) :
    StoreAlone (s.storing cells) q := by
  obtain ⟨hop, hsf, hce, hbusy, hexec, hq, hqueue⟩ := h
  exact ⟨hop, hsf, hce, hbusy, hexec, hq, hqueue⟩

/-- The record is replaced or emptied: what it held does not matter. -/
theorem advanceOperation_emptyRecord (op : StoreOp) (s : State) :
    advanceOperation op (emptyRecord s) = advanceOperation op s := by
  simp only [advanceOperation]
  split <;> rfl

/-- What an operation that goes on leaves once the arbiter has taken what waits. -/
def engineAt (op : StoreOp) (s : State) : State := grantStore (advanceOperation op s)

section
variable {s : State} {q : Queued} {op : StoreOp} {r : BurstRequest}

/-- An operation with a burst to request has it granted at once (R98). -/
theorem engineAt_request (h : StoreAlone s q) (hrequest : op.settled.firstRequest = some r) :
    engineAt op s = s.bursting op.settled r := by
  obtain ⟨-, hsf, hce, hbusy, -, -, -⟩ := h
  simp only [engineAt, advanceOperation, hrequest]
  simp [grantStore, OverlayStore.grant, State.bursting, State.withOs, hsf, hce, hbusy]

/-- An operation with none left is answered (R115, R116). -/
theorem engineAt_done (h : StoreAlone s q) (hrequest : op.settled.firstRequest = none) :
    engineAt op s = s.completed q .ok
      (if op.settled.params.writes then op.settled.counts else op.settled.data) := by
  obtain ⟨hop, hsf, hce, hbusy, hexec, hq, hqueue⟩ := h
  have hempty : emptyRecord s = s := by simp [emptyRecord, State.withOs, ← hop]
  simp only [engineAt, advanceOperation, hrequest, finishOperation, hempty,
    completeCommand_sequenced hexec hq]
  rw [settleEngine_empty (by exact hqueue)]
  simp [grantStore, OverlayStore.grant, State.completed, State.withOs, hsf, hce, hbusy]

variable (h : StoreAlone s q) (hending : op.ending = false) (hstore : r.addr + r.len ≤ 1048576)
include h hstore

theorem exec_bursting : exec .ceBurstComplete (s.bursting op r) = .next (grantStore
    (if r.write then completeWrite op r (s.withOs { s.os with op := some op })
      else completeRead op r (s.withOs { s.os with op := some op }))) := by
  have hin : r.inStore = true := decide_eq_true hstore
  have hfree : (s.bursting op r).withOs { (s.bursting op r).os with busy := none } =
      s.withOs { s.os with op := some op } := by
    simp [State.bursting, State.withOs, ← h.busy]
  have hgranted : (s.bursting op r).os.busy = some ⟨.ce, r, false⟩ := rfl
  simp only [exec, execCeBurstComplete, hgranted, hin, if_true, completeEngineBurst, hfree,
    State.withOs_os]

include hending

/-- A write burst completes, and the operation goes on to its next step (R99, R109). -/
theorem exec_writeBurst (hwrite : r.write = true) : exec .ceBurstComplete (s.bursting op r) =
    .next (engineAt { op.afterWrite r with next := op.next + 1 } (s.storing
      (Memory.writeMasked (clippedBy op.fences) s.os.cells r.addr (op.burstData r.len)))) := by
  have hgoes : ∀ x, completeWrite op r x = advanceOperation { op.afterWrite r with next := op.next + 1 }
      (x.storing (Memory.writeMasked (clippedBy op.fences) x.os.cells r.addr (op.burstData r.len))) :=
    fun _ => if_neg (by simp [hending])
  rw [exec_bursting h hstore, if_pos hwrite, hgoes]
  rfl

/-- A read burst of a read completes: its octets join the data (R115). -/
theorem exec_readBurst (hwrite : r.write = false) (hread : op.params.writes = false) :
    exec .ceBurstComplete (s.bursting op r) =
      .next (engineAt { op with data := op.data ++ Memory.readRun s.os.cells r.addr r.len
                                next := op.next + 1 } s) := by
  have hgoes : ∀ x, completeRead op r x = advanceOperation
      { op with data := op.data ++ Memory.readRun x.os.cells r.addr r.len, next := op.next + 1 } x :=
    fun _ => (if_neg (by simp [hending])).trans (if_neg (by simp [hread]))
  rw [exec_bursting h hstore, if_neg (by simp [hwrite]), hgoes]
  rfl

/-- A read burst of a copy completes: its octets are held and the step's write burst is granted (R114). -/
theorem exec_copyBurst (hwrite : r.write = false) (hcopy : op.params.writes = true) :
    exec .ceBurstComplete (s.bursting op r) =
      .next (s.bursting { op with held := Memory.readRun s.os.cells r.addr r.len }
        (StoreOp.writeRequest op)) := by
  have hholds : ∀ x : State, completeRead op r x = x.withOs { x.os with
      op := some { op with held := Memory.readRun x.os.cells r.addr r.len }
      ceWaiting := some (StoreOp.writeRequest op) } :=
    fun _ => (if_neg (by simp [hending])).trans (if_pos hcopy)
  rw [exec_bursting h hstore, if_neg (by simp [hwrite]), hholds]
  simp [grantStore, OverlayStore.grant, State.bursting, State.withOs, h.sfWaiting, h.busy, h.ceWaiting]

end

/-- The checks pass: the operation begins with the store as it is and the fences as they are (R107, R118). -/
theorem exec_storeChecks_passed {s : State} {p : StoreParams} (hop : s.os.op = some (.checking p))
    (hpassed : p.refusal s.os.fences = none) : exec .storeChecksComplete s =
      .next (engineAt { StoreOp.checking p with running := true, fences := s.os.fences }
        (emptyRecord s)) := by
  have hpassed' : (StoreOp.checking p).params.refusal s.os.fences = none := hpassed
  simp only [exec, execStoreChecksComplete, hop, completeChecks, hpassed', engineAt,
    advanceOperation_emptyRecord]
  rfl

/-- One burst, then the others. -/
theorem engineBursts_succ {s t : State} (h : exec .ceBurstComplete s = .next t) (n : Nat) :
    engineBursts (n + 1) s = engineBursts n t := by
  simp only [engineBursts, h]

theorem StoreAlone.of_idle {s : State} {q : Queued} (hidle : storeIdle s)
    (hexec : s.ce.exec = some ⟨q, .store⟩) (hq : q.sequenced = true) (hqueue : s.ce.queue = []) :
    StoreAlone (emptyRecord s) q := by
  obtain ⟨-, hsf, hce, hbusy⟩ := hidle
  exact ⟨rfl, hsf, hce, hbusy, hexec, hq, hqueue⟩

/-! ### A read -/

/-- A read with its first `n` bursts completed (R115). -/
def readAt (s : State) (v : View) (count n : Nat) : StoreOp :=
  { StoreOp.checking (.read v count) with
    running := true, fences := s.os.fences, next := n
    data := (List.range (min (64 * n) count)).map fun k => Memory.read s.os.cells (v.at 0 k) }

/-- A read passes over no step. -/
theorem StoreOp.settled_read {op : StoreOp} (h : op.params.writes = false) : op.settled = op := by
  unfold StoreOp.settled
  cases op.params.steps with
  | zero => rfl
  | succ fuel => exact if_neg (by simp [h])

theorem StoreParams.steps_read (v : View) (count : Nat) :
    (StoreParams.read v count).steps = (count + 63) / 64 := by
  simp [StoreParams.steps, StoreParams.height, StoreParams.width, burstsOf]

/-- A burst of a read follows the ones before it. -/
theorem StoreParams.originRun_read (v : View) {count n : Nat} (h : n < (count + 63) / 64) :
    (StoreParams.read v count).originRun n = (v.at 0 (64 * n), min 64 (count - 64 * n)) := by
  simp [StoreParams.originRun, StoreParams.cut, StoreParams.descending, StoreParams.origin,
    StoreParams.target, StoreParams.width, burstsOf, Nat.div_eq_of_lt h, Nat.mod_eq_of_lt h]

theorem readAt_next (s : State) (v : View) {count n : Nat} (h : n < (count + 63) / 64) :
    { readAt s v count n with
      data := (readAt s v count n).data ++
        Memory.readRun s.os.cells (v.at 0 (64 * n)) (min 64 (count - 64 * n))
      next := n + 1 } = readAt s v count (n + 1) := by
  have hsplit : min (64 * (n + 1)) count = min (64 * n) count + min 64 (count - 64 * n) := by omega
  have hfirst : min (64 * n) count = 64 * n := by omega
  simp only [readAt, hsplit, List.range_add, List.map_append, List.map_map, Memory.readRun, hfirst]
  congr 3
  funext k
  exact congrArg _ (View.at_add v 0 (64 * n) k).symm

/-- The bursts left of a read answer it. -/
theorem engineBursts_read {s : State} {q : Queued} {v : View} {count : Nat} (h : StoreAlone s q)
    (hstore : v.at 0 (count - 1) ≤ 1048575) (left : Nat) :
    ∀ n, n + left = (count + 63) / 64 → engineBursts left (engineAt (readAt s v count n) s) =
      some (s.completed q .ok
        ((List.range count).map fun k => Memory.read s.os.cells (v.at 0 k))) := by
  have hsettled : ∀ n, (readAt s v count n).settled = readAt s v count n :=
    fun _ => StoreOp.settled_read rfl
  have hsteps := StoreParams.steps_read v count
  induction left with
  | zero =>
    intro n hn
    have hrequest : (readAt s v count n).settled.firstRequest = none := by
      rw [hsettled, StoreOp.firstRequest, if_neg]
      simp only [readAt, StoreOp.checking, hsteps]
      omega
    have hall : min (64 * n) count = count := by omega
    rw [engineAt_done h hrequest, hsettled]
    simp [engineBursts, readAt, StoreOp.checking, StoreParams.writes, hall]
  | succ left ih =>
    intro n hn
    have hlt : n < (count + 63) / 64 := by omega
    have hrequest : (readAt s v count n).settled.firstRequest =
        some ⟨false, v.at 0 (64 * n), min 64 (count - 64 * n)⟩ := by
      rw [hsettled, StoreOp.firstRequest, if_pos (by simpa only [readAt, StoreOp.checking, hsteps])]
      simp only [readAt, StoreOp.checking, StoreParams.readsFirst, if_true,
        StoreParams.originRun_read v hlt]
    have hin : v.at 0 (64 * n) + min 64 (count - 64 * n) ≤ 1048576 := by
      simp only [View.at] at hstore ⊢
      omega
    rw [engineAt_request h hrequest, hsettled,
      engineBursts_succ (exec_readBurst h rfl hin rfl rfl) left]
    have hnext := ih (n + 1) (by omega)
    rwa [← readAt_next s v hlt] at hnext

/-- Settles O47: the checks pass, and burst by burst the octets join the answer. -/
theorem storeReadAnswersOctets : Obligations.StoreReadAnswersOctets := by
  unfold Obligations.StoreReadAnswersOctets
  intro s v count q hop hpassed hidle hexec hq hqueue _
  obtain ⟨-, hinside, -⟩ := StoreParams.passed hpassed
  have hstore : v.at 0 (count - 1) ≤ 1048575 := (of_decide_eq_true hinside).1
  have hbursts := engineBursts_read (StoreAlone.of_idle hidle hexec hq hqueue) hstore
    ((count + 63) / 64) 0 (Nat.zero_add _)
  exact ⟨_, _, exec_storeChecks_passed hop hpassed, hbursts, rfl⟩

end Sys2Proof.Machine
end

section
/-! The footprint of a write operation: its steps in order, the octets they mean and the store they leave
(R96, R103, R104, R109, R111, R113, R114). -/

namespace Sys2Proof.Machine

/-! ### Addresses in order -/

/-- The rows of a side do not run into one another. -/
def View.Apart (v : View) (h w : Nat) : Prop := h ≤ 1 ∨ v.x + w ≤ v.pitch

/-- Addresses ascend along a row and from row to row. -/
theorem View.at_lt_at {v : View} {h w r c r' c' : Nat} (happart : v.Apart h w) (hc : c < w)
    (hr' : r' < h) (hbefore : r < r' ∨ r = r' ∧ c < c') : v.at r c < v.at r' c' := by
  simp only [View.at]
  obtain hrow | ⟨rfl, hcol⟩ := hbefore
  · obtain hone | hpitch := happart
    · omega
    · have hrows : (v.y + r + 1) * v.pitch ≤ (v.y + r') * v.pitch := Nat.mul_le_mul_right _ (by omega)
      rw [Nat.add_mul, Nat.one_mul] at hrows
      omega
  · omega

/-- A point comes before another in the order of the steps (R113). -/
def StoreParams.Before (p : StoreParams) (r c r' c' : Nat) : Prop :=
  if p.descending then r' < r ∨ r' = r ∧ c' < c else r < r' ∨ r = r' ∧ c < c'

/-- What the checks leave of a write operation: both sides lie in the store, and the rows of neither run
into one another (R107). -/
structure StoreParams.Passed (p : StoreParams) : Prop where
  inside : ∀ r < p.height, ∀ c < p.width, p.origin.at r c ≤ 1048575 ∧ p.target.at r c ≤ 1048575
  target : p.target.Apart p.height p.width
  origin : p.origin.Apart p.height p.width
  overlaps : ¬ p.overlaps = true

theorem StoreParams.apart_of_fault {p : StoreParams} (h : p.fault = none) :
    p.target.Apart p.height p.width ∧ p.origin.Apart p.height p.width := by
  cases p with
  | write | read => exact ⟨.inl le_rfl, .inl le_rfl⟩
  | fill v w h' index =>
    simp only [StoreParams.fault, Option.or_eq_none_iff] at h
    obtain ⟨-, h⟩ := h
    split_ifs at h with hw hh hrow
    exact ⟨.inr (Nat.le_of_not_lt hrow), .inr (Nat.le_of_not_lt hrow)⟩
  | copy src dst w h' =>
    simp only [StoreParams.fault, Option.or_eq_none_iff] at h
    obtain ⟨-, h⟩ := h
    split_ifs at h with hw hh hsrc hdst
    exact ⟨.inr (Nat.le_of_not_lt hdst), .inr (Nat.le_of_not_lt hsrc)⟩

theorem StoreParams.passed_of_refusal {p : StoreParams} {fences : List Fence}
    (h : p.refusal fences = none) : p.Passed := by
  obtain ⟨hfault, hstore, hoverlaps⟩ := StoreParams.passed h
  obtain ⟨htarget, horigin⟩ := StoreParams.apart_of_fault hfault
  refine ⟨fun r hr c hc => ?_, htarget, horigin, hoverlaps⟩
  exact (StoreParams.inStore_iff (by omega) (by omega)).1 hstore r hr c hc

/-! ### The steps in order -/

theorem StoreParams.cut_ascending {p : StoreParams} (h : ¬ p.descending = true) (n : Nat) :
    p.cut n = (n / burstsOf p.width, 64 * (n % burstsOf p.width),
      min 64 (p.width - 64 * (n % burstsOf p.width))) := by
  simp only [StoreParams.cut, if_neg h]

theorem StoreParams.cut_descending {p : StoreParams} (h : p.descending = true) (n : Nat) :
    p.cut n = (p.height - 1 - n / burstsOf p.width,
      p.width - 64 * (n % burstsOf p.width) - 64,
      p.width - 64 * (n % burstsOf p.width) - (p.width - 64 * (n % burstsOf p.width) - 64)) := by
  simp only [StoreParams.cut, if_pos h]

/-- The octet `k` of step `n`, as a point. -/
abbrev StoreParams.rowOf (p : StoreParams) (n : Nat) : Nat := (p.cut n).1
abbrev StoreParams.colOf (p : StoreParams) (n k : Nat) : Nat := (p.cut n).2.1 + k
abbrev StoreParams.lenOf (p : StoreParams) (n : Nat) : Nat := (p.cut n).2.2

/-- An earlier step's octets come before a later one's. -/
theorem StoreParams.steps_before {p : StoreParams} {i n j k : Nat} (hin : i < n) (hn : n < p.steps)
    (hj : j < p.lenOf i) (hk : k < p.lenOf n) :
    p.Before (p.rowOf i) (p.colOf i j) (p.rowOf n) (p.colOf n k) := by
  have hpos : 0 < burstsOf p.width := Nat.pos_of_mul_pos_left (Nat.zero_lt_of_lt hn)
  have hrow : n / burstsOf p.width < p.height := Nat.div_lt_of_lt_mul (by rwa [Nat.mul_comm])
  have hrows : i / burstsOf p.width < n / burstsOf p.width ∨
      i / burstsOf p.width = n / burstsOf p.width ∧
        i % burstsOf p.width < n % burstsOf p.width := by
    have hle := Nat.div_le_div_right (c := burstsOf p.width) hin.le
    rcases Nat.lt_or_eq_of_le hle with hlt | heq
    · exact .inl hlt
    · have hi := Nat.div_add_mod i (burstsOf p.width)
      have hnn := Nat.div_add_mod n (burstsOf p.width)
      rw [heq] at hi
      exact .inr ⟨heq, by omega⟩
  simp only [StoreParams.Before, StoreParams.rowOf, StoreParams.colOf, StoreParams.lenOf] at hj hk ⊢
  by_cases hdesc : p.descending = true
  · rw [if_pos hdesc]
    rw [StoreParams.cut_descending hdesc] at hj hk ⊢
    rw [StoreParams.cut_descending hdesc]
    dsimp only at hj hk ⊢
    omega
  · rw [if_neg hdesc]
    rw [StoreParams.cut_ascending hdesc] at hj hk ⊢
    rw [StoreParams.cut_ascending hdesc]
    dsimp only at hj hk ⊢
    omega

/-- Every point of the operation is an octet of some step. -/
theorem StoreParams.exists_step {p : StoreParams} {r c : Nat} (hr : r < p.height) (hc : c < p.width) :
    ∃ n < p.steps, ∃ k < p.lenOf n, p.rowOf n = r ∧ p.colOf n k = c := by
  have hstep : ∀ {row col : Nat}, row < p.height → col < burstsOf p.width →
      row * burstsOf p.width + col < p.steps ∧
      (row * burstsOf p.width + col) / burstsOf p.width = row ∧
      (row * burstsOf p.width + col) % burstsOf p.width = col := by
    intro row col hrow hcol
    have hrows : (row + 1) * burstsOf p.width ≤ p.height * burstsOf p.width :=
      Nat.mul_le_mul_right _ hrow
    rw [Nat.add_mul, Nat.one_mul] at hrows
    refine ⟨by simp only [StoreParams.steps]; omega, ?_, ?_⟩
    · rw [Nat.mul_comm, Nat.mul_add_div (by omega), Nat.div_eq_of_lt hcol, Nat.add_zero]
    · rw [Nat.mul_comm, Nat.mul_add_mod, Nat.mod_eq_of_lt hcol]
  by_cases hdesc : p.descending = true
  · obtain ⟨hn, hdiv, hmod⟩ := hstep (row := p.height - 1 - r) (col := (p.width - 1 - c) / 64) (by omega)
      (by simp only [burstsOf]; omega)
    refine ⟨_, hn, c - (p.width - 64 * ((p.width - 1 - c) / 64) - 64), ?_⟩
    simp only [StoreParams.rowOf, StoreParams.colOf, StoreParams.lenOf, StoreParams.cut_descending hdesc,
      hdiv, hmod]
    omega
  · obtain ⟨hn, hdiv, hmod⟩ := hstep (row := r) (col := c / 64) hr (by simp only [burstsOf]; omega)
    refine ⟨_, hn, c % 64, ?_⟩
    simp only [StoreParams.rowOf, StoreParams.colOf, StoreParams.lenOf, StoreParams.cut_ascending hdesc,
      hdiv, hmod, true_and]
    omega

/-- The octets of a step are points of the operation. -/
theorem StoreParams.step_point {p : StoreParams} {n k : Nat} (hn : n < p.steps) (hk : k < p.lenOf n) :
    p.rowOf n < p.height ∧ p.colOf n k < p.width := by
  obtain ⟨hrow, -, hcol⟩ := p.cut_bounds hn
  simp only [StoreParams.rowOf, StoreParams.colOf, StoreParams.lenOf] at hk ⊢
  omega

theorem StoreParams.targetRun_octet (p : StoreParams) (n k : Nat) :
    (p.targetRun n).1 + k = p.target.at (p.rowOf n) (p.colOf n k) := (View.at_add ..).symm

/-- Points in order have different addresses. -/
theorem View.at_ne_of_before {p : StoreParams} {v : View} (happart : v.Apart p.height p.width)
    {r c r' c' : Nat} (hr : r < p.height) (hc : c < p.width) (hr' : r' < p.height) (hc' : c' < p.width)
    (h : p.Before r c r' c') : v.at r c ≠ v.at r' c' := by
  unfold StoreParams.Before at h
  split_ifs at h
  · exact (View.at_lt_at happart hc' hr h).ne'
  · exact (View.at_lt_at happart hc hr' h).ne

/-! ### What a copy reads -/

/-- With equal pitches the two sides of a copy keep their distance. -/
theorem View.at_distance {v u : View} (h : v.pitch = u.pitch) (r c : Nat) :
    v.at r c + u.at 0 0 = u.at r c + v.at 0 0 := by
  simp only [View.at, h, Nat.add_mul, Nat.zero_mul]
  omega

/-- No step before a point writes the source octet of that point (R113). -/
theorem StoreParams.source_unwritten {src dst : View} {w h : Nat}
    (hp : (StoreParams.copy src dst w h).Passed) {r c r' c' : Nat} (hr : r < h) (hc : c < w)
    (hr' : r' < h) (hc' : c' < w) (hbefore : (StoreParams.copy src dst w h).Before r c r' c') :
    dst.at r c ≠ src.at r' c' := by
  by_cases hpitch : src.pitch = dst.pitch
  · have hfar := View.at_distance hpitch r' c'
    simp only [StoreParams.Before, StoreParams.descending, hpitch, true_and, decide_eq_true_eq] at hbefore
    split_ifs at hbefore with hdesc
    · have hlt : dst.at r' c' < dst.at r c := View.at_lt_at hp.target hc' hr hbefore
      omega
    · have hlt : dst.at r c < dst.at r' c' := View.at_lt_at hp.target hc hr' hbefore
      omega
  · have hapart : ¬ (src.at 0 0 ≤ dst.at (h - 1) (w - 1) ∧ dst.at 0 0 ≤ src.at (h - 1) (w - 1)) :=
      fun ⟨hlow, hhigh⟩ =>
        hp.overlaps (StoreParams.overlaps_iff.2 ⟨src, dst, w, h, rfl, hpitch, hlow, hhigh⟩)
    have hfirst : ∀ v : View, ∀ a b, v.at 0 0 ≤ v.at a b := fun v a b => by
      have := Nat.mul_le_mul_right v.pitch (Nat.le_add_right v.y a)
      simp only [View.at, Nat.add_zero]
      omega
    have hs := hfirst src r' c'
    have hd := hfirst dst r c
    have hs' := src.at_le_at hr' hc'
    have hd' := dst.at_le_at hr hc
    omega

/-! ### The store behind the first steps -/

/-- The octets that step `n` means to write, the store holding `m` when the operation began. -/
def StoreParams.meant (p : StoreParams) (m : Memory) (n : Nat) : List Byte :=
  (List.range (p.lenOf n)).map fun k => p.valueAt m (p.rowOf n) (p.colOf n k)

@[simp] theorem StoreParams.meant_length (p : StoreParams) (m : Memory) (n : Nat) :
    (p.meant m n).length = p.lenOf n := by simp [StoreParams.meant]

/-- The store behind the first `n` steps. -/
def StoreParams.stored (p : StoreParams) (fences : List Fence) (m : Memory) : Nat → Memory
  | 0 => m
  | n + 1 => Memory.writeMasked (clippedBy fences) (p.stored fences m n) (p.targetRun n).1 (p.meant m n)

section
variable {p : StoreParams} {fences : List Fence} {m : Memory}

theorem StoreParams.stored_wf (h : Memory.Wf m) (n : Nat) : Memory.Wf (p.stored fences m n) := by
  induction n with
  | zero => exact h
  | succ n ih => exact Memory.writeMasked_wf _ ih _ _

/-- One octet behind one more step. -/
theorem StoreParams.read_stored_succ (h : Memory.Wf m) (n a : Nat) :
    Memory.read (p.stored fences m (n + 1)) a =
      if (p.targetRun n).1 ≤ a ∧ a < (p.targetRun n).1 + p.lenOf n ∧ clippedBy fences a = false then
        (p.meant m n).getD (a - (p.targetRun n).1) 0
      else Memory.read (p.stored fences m n) a := by
  rw [StoreParams.stored, Memory.read_writeMasked _ (StoreParams.stored_wf h n), StoreParams.meant_length]

/-- An octet that the steps clip, or do not reach, stays. -/
theorem StoreParams.read_stored_other (h : Memory.Wf m) {n a : Nat}
    (hother : clippedBy fences a = true ∨
      ∀ i < n, ∀ k < p.lenOf i, p.target.at (p.rowOf i) (p.colOf i k) ≠ a) :
    Memory.read (p.stored fences m n) a = Memory.read m a := by
  induction n with
  | zero => rfl
  | succ n ih =>
    rw [StoreParams.read_stored_succ h, if_neg, ih]
    · exact hother.imp id fun hreach i hi => hreach i (Nat.lt_succ_of_lt hi)
    · rintro ⟨hfrom, hto, hopen⟩
      obtain hclip | hreach := hother
      · simp [hclip] at hopen
      · refine hreach n (Nat.lt_succ_self n) (a - (p.targetRun n).1) (by omega) ?_
        rw [← StoreParams.targetRun_octet]
        omega

/-- An octet that a step writes holds what the operation means for it. -/
theorem StoreParams.read_stored_point (h : Memory.Wf m) (hp : p.Passed) {i n k : Nat} (hin : i < n)
    (hn : n ≤ p.steps) (hk : k < p.lenOf i)
    (hopen : clippedBy fences (p.target.at (p.rowOf i) (p.colOf i k)) = false) :
    Memory.read (p.stored fences m n) (p.target.at (p.rowOf i) (p.colOf i k)) =
      p.valueAt m (p.rowOf i) (p.colOf i k) := by
  induction n with
  | zero => omega
  | succ n ih =>
    have haddress := p.targetRun_octet i k
    rw [StoreParams.read_stored_succ h]
    rcases Nat.lt_succ_iff_lt_or_eq.1 hin with hlt | rfl
    · rw [if_neg, ih hlt (by omega)]
      rintro ⟨hfrom, hto, -⟩
      obtain ⟨hrow, hcol⟩ := StoreParams.step_point (p := p) (n := i) (by omega) hk
      have hk' : p.target.at (p.rowOf i) (p.colOf i k) - (p.targetRun n).1 < p.lenOf n := by omega
      obtain ⟨hrow', hcol'⟩ := StoreParams.step_point (p := p) (n := n) (by omega) hk'
      have haddress' := p.targetRun_octet n (p.target.at (p.rowOf i) (p.colOf i k) - (p.targetRun n).1)
      exact View.at_ne_of_before hp.target hrow hcol hrow' hcol'
        (StoreParams.steps_before hlt (by omega) hk hk') (by omega)
    · rw [if_pos ⟨by omega, by omega, hopen⟩, ← haddress, Nat.add_sub_cancel_left]
      simp [StoreParams.meant, List.getD_eq_getElem?_getD, hk]

end

end Sys2Proof.Machine
end

section
/-! A write operation that has the store to itself, from the end of its checks to its last burst (R99, R103,
R104, R107, R109, R111, R113, R114, R116). -/

namespace Sys2Proof.Machine

/-! ### The octets counted -/

/-- The destination addresses, row by row. -/
def StoreParams.targets (p : StoreParams) : List Nat :=
  (List.range p.height).flatMap fun r => (List.range p.width).map fun c => p.target.at r c

/-- The addresses of step `n`. -/
def StoreParams.stepTargets (p : StoreParams) (n : Nat) : List Nat :=
  (List.range (p.targetRun n).2).map fun k => (p.targetRun n).1 + k

/-- The addresses of the first `n` steps. -/
def StoreParams.targetsBefore (p : StoreParams) (n : Nat) : List Nat :=
  (List.range n).flatMap p.stepTargets

theorem StoreParams.targetsBefore_succ (p : StoreParams) (n : Nat) :
    p.targetsBefore (n + 1) = p.targetsBefore n ++ p.stepTargets n := by
  simp [StoreParams.targetsBefore, List.range_succ]

theorem StoreParams.countTargets_eq (p : StoreParams) (f : Nat → Bool) :
    p.countTargets f = p.targets.countP f := by
  simp only [StoreParams.countTargets, StoreParams.targets, List.countP_flatMap, Function.comp_def,
    List.countP_map]

theorem StoreParams.clippedIn_eq (p : StoreParams) (fences : List Fence) (n : Nat) :
    clippedIn fences (p.targetRun n).1 (p.targetRun n).2 =
      (p.stepTargets n).countP (clippedBy fences) := by
  simp only [StoreParams.stepTargets, List.countP_map]
  rfl

/-- Each octet of a step is clipped or written. -/
theorem StoreParams.unclippedIn_eq (p : StoreParams) (fences : List Fence) (n : Nat) :
    (p.targetRun n).2 - clippedIn fences (p.targetRun n).1 (p.targetRun n).2 =
      (p.stepTargets n).countP fun a => !clippedBy fences a := by
  have hlength : (p.stepTargets n).length = (p.targetRun n).2 := by simp [StoreParams.stepTargets]
  have hsplit := (p.stepTargets n).length_eq_countP_add_countP (clippedBy fences)
  rw [StoreParams.clippedIn_eq, ← hlength, hsplit, Nat.add_sub_cancel_left]
  simp

theorem StoreParams.mem_stepTargets {p : StoreParams} {n a : Nat} :
    a ∈ p.stepTargets n ↔ ∃ k < p.lenOf n, p.target.at (p.rowOf n) (p.colOf n k) = a := by
  simp only [StoreParams.stepTargets, List.mem_map, List.mem_range, StoreParams.targetRun_octet]
  rfl

theorem StoreParams.mem_targets {p : StoreParams} {a : Nat} :
    a ∈ p.targets ↔ ∃ r < p.height, ∃ c < p.width, p.target.at r c = a := by
  simp [StoreParams.targets]

theorem StoreParams.targets_nodup {p : StoreParams} (hp : p.Passed) : p.targets.Nodup := by
  refine List.nodup_flatMap.2 ⟨fun r _ => ?_, ?_⟩
  · refine List.nodup_range.map fun c c' heq => ?_
    simp only [View.at] at heq
    omega
  · refine List.pairwise_lt_range.imp_of_mem fun {r r'} _ hr' hlt => ?_
    simp only [Function.onFun, List.disjoint_left, List.mem_map, List.mem_range]
    rintro a ⟨c, hc, rfl⟩ ⟨c', -, heq⟩
    exact absurd heq (View.at_lt_at hp.target hc (List.mem_range.1 hr') (.inl hlt)).ne'

theorem StoreParams.targetsBefore_nodup {p : StoreParams} (hp : p.Passed) :
    (p.targetsBefore p.steps).Nodup := by
  refine List.nodup_flatMap.2 ⟨fun n _ => ?_, ?_⟩
  · exact List.nodup_range.map fun k k' heq => Nat.add_left_cancel heq
  · refine List.pairwise_lt_range.imp_of_mem fun {i n} hi hn hlt => ?_
    simp only [Function.onFun, List.disjoint_left, StoreParams.mem_stepTargets]
    rintro a ⟨j, hj, rfl⟩ ⟨k, hk, heq⟩
    obtain ⟨hrow, hcol⟩ := StoreParams.step_point (List.mem_range.1 hi) hj
    obtain ⟨hrow', hcol'⟩ := StoreParams.step_point (List.mem_range.1 hn) hk
    exact View.at_ne_of_before hp.target hrow hcol hrow' hcol'
      (StoreParams.steps_before hlt (List.mem_range.1 hn) hj hk) heq.symm

/-- The steps reach each destination octet once. -/
theorem StoreParams.targetsBefore_perm {p : StoreParams} (hp : p.Passed) :
    (p.targetsBefore p.steps).Perm p.targets := by
  refine (List.perm_ext_iff_of_nodup (StoreParams.targetsBefore_nodup hp)
    (StoreParams.targets_nodup hp)).2 fun a => ?_
  simp only [StoreParams.targetsBefore, List.mem_flatMap, List.mem_range, StoreParams.mem_stepTargets,
    StoreParams.mem_targets]
  constructor
  · rintro ⟨n, hn, k, hk, rfl⟩
    obtain ⟨hrow, hcol⟩ := StoreParams.step_point hn hk
    exact ⟨_, hrow, _, hcol, rfl⟩
  · rintro ⟨r, hr, c, hc, rfl⟩
    obtain ⟨n, hn, k, hk, hrow, hcol⟩ := StoreParams.exists_step hr hc
    exact ⟨n, hn, k, hk, by rw [hrow, hcol]⟩

/-! ### The operation between its steps -/

/-- A write operation with its first `n` steps done (R104, R116). -/
def StoreParams.runAt (p : StoreParams) (fences : List Fence) (n : Nat) : StoreOp :=
  { StoreOp.checking p with
    running := true, fences := fences, next := n
    written := (p.targetsBefore n).countP fun a => !clippedBy fences a
    clipped := (p.targetsBefore n).countP (clippedBy fences) }

section
variable {p : StoreParams} {fences : List Fence} {n : Nat}

/-- The counts at the end are those of the whole destination (R116). -/
theorem StoreParams.runAt_counts (hp : p.Passed) : (p.runAt fences p.steps).counts =
    toOctets 3 (p.countTargets fun a => !clippedBy fences a) ++
      toOctets 3 (p.countTargets fun a => clippedBy fences a) := by
  have hperm := StoreParams.targetsBefore_perm hp
  rw [StoreParams.countTargets_eq, StoreParams.countTargets_eq, ← hperm.countP_eq, ← hperm.countP_eq]
  rfl

/-- A step whose burst has completed. -/
theorem StoreParams.runAt_burst (held : List Byte) (write : Bool) :
    { StoreOp.afterWrite { p.runAt fences n with held := held }
        ⟨write, (p.targetRun n).1, (p.targetRun n).2⟩ with next := n + 1 } = p.runAt fences (n + 1) := by
  simp only [StoreOp.afterWrite, StoreParams.runAt, StoreParams.targetsBefore_succ, List.countP_append,
    ← StoreParams.clippedIn_eq, ← StoreParams.unclippedIn_eq]
  rfl

/-- A step clipped whole and passed over. -/
theorem StoreParams.runAt_passed
    (hclip : clippedIn fences (p.targetRun n).1 (p.targetRun n).2 = (p.targetRun n).2) :
    { p.runAt fences n with
      next := n + 1, clipped := (p.runAt fences n).clipped + (p.targetRun n).2 } =
      p.runAt fences (n + 1) := by
  have hwritten := p.unclippedIn_eq fences n
  rw [hclip, Nat.sub_self] at hwritten
  simp only [StoreParams.runAt, StoreParams.targetsBefore_succ, List.countP_append, ← hwritten,
    ← StoreParams.clippedIn_eq, hclip]
  rfl

/-- Passing over clipped steps needs no more fuel than there are steps left. -/
theorem StoreOp.passClipped_fuel {fuel : Nat} {op : StoreOp} (h : op.params.steps ≤ op.next + fuel) :
    op.passClipped (fuel + 1) = op.passClipped fuel := by
  induction fuel generalizing op with
  | zero => exact if_neg fun hpass => absurd hpass.2.1 (by omega)
  | succ fuel ih =>
    rw [StoreOp.passClipped]
    conv_rhs => rw [StoreOp.passClipped]
    dsimp only
    split_ifs
    · exact ih (by dsimp only; omega)
    · rfl

/-- A step clipped whole is passed over (R104). -/
theorem StoreParams.settled_clipped (hwrites : p.writes = true) (hn : n < p.steps)
    (hclip : clippedIn fences (p.targetRun n).1 (p.targetRun n).2 = (p.targetRun n).2) :
    (p.runAt fences n).settled = (p.runAt fences (n + 1)).settled := by
  obtain ⟨fuel, hfuel⟩ := Nat.exists_eq_add_of_lt (Nat.zero_lt_of_lt hn)
  have hpass : (p.runAt fences n).passClipped (fuel + 1) = (p.runAt fences (n + 1)).passClipped fuel := by
    rw [StoreOp.passClipped, ← StoreParams.runAt_passed hclip]
    exact if_pos ⟨hwrites, hn, hclip⟩
  have hsteps : ∀ k, (p.runAt fences k).params.steps = fuel + 1 := fun _ => by
    rw [← Nat.zero_add fuel]; exact hfuel
  rw [StoreOp.settled, StoreOp.settled, hsteps, hsteps, hpass,
    StoreOp.passClipped_fuel (by rw [hsteps]; simp only [StoreParams.runAt]; omega)]

/-- Any other operation stays at its step. -/
theorem StoreParams.settled_stays
    (hstays : ¬ (n < p.steps ∧ clippedIn fences (p.targetRun n).1 (p.targetRun n).2 = (p.targetRun n).2)) :
    (p.runAt fences n).settled = p.runAt fences n := by
  unfold StoreOp.settled
  cases (p.runAt fences n).params.steps with
  | zero => rfl
  | succ fuel => exact if_neg fun hpass => hstays hpass.2

/-- A step clipped whole leaves the store. -/
theorem Memory.writeMasked_clipped {skip : Nat → Bool} (m : Memory) {a : Nat} {vs : List Byte}
    (h : ∀ k < vs.length, skip (a + k) = true) : Memory.writeMasked skip m a vs = m := by
  induction vs generalizing a with
  | nil => rfl
  | cons v vs ih =>
    have hfirst : skip a = true := h 0 (by simp)
    simp only [Memory.writeMasked, hfirst, if_true]
    exact ih fun k hk => by
      rw [Nat.add_assoc, Nat.add_comm 1 k]
      exact h (k + 1) (by simpa using hk)

theorem StoreParams.stored_clipped (m : Memory)
    (hclip : clippedIn fences (p.targetRun n).1 (p.targetRun n).2 = (p.targetRun n).2) :
    p.stored fences m (n + 1) = p.stored fences m n :=
  Memory.writeMasked_clipped _ fun k hk => (clippedIn_eq_iff ..).1 hclip k (by
    rwa [StoreParams.meant_length] at hk)

/-! ### The octets of a burst -/

theorem StoreParams.originRun_eq (p : StoreParams) (n : Nat) :
    p.originRun n = (p.origin.at (p.rowOf n) (p.cut n).2.1, p.lenOf n) := rfl

/-- Every octet of a step lies in the store. -/
theorem StoreParams.step_inStore (hp : p.Passed) (hn : n < p.steps) :
    (p.originRun n).1 + (p.originRun n).2 ≤ 1048576 ∧ (p.targetRun n).1 + (p.targetRun n).2 ≤ 1048576 := by
  have hlen : 0 < p.lenOf n := (p.cut_bounds hn).2.1
  have htarget : p.targetRun n = (p.target.at (p.rowOf n) (p.cut n).2.1, p.lenOf n) := rfl
  have hlast : p.lenOf n - 1 < p.lenOf n := Nat.sub_lt hlen Nat.one_pos
  obtain ⟨hrow, hcol⟩ := StoreParams.step_point hn hlast
  have hinside := hp.inside _ hrow _ hcol
  simp only [StoreParams.colOf, View.at_add] at hinside
  rw [StoreParams.originRun_eq, htarget]
  dsimp only
  omega

/-- A write or a fill carries what it means (R109, R111). -/
theorem StoreParams.burstData_direct (m : Memory) (hn : n < p.steps) (hwrites : p.writes = true)
    (hdirect : p.readsFirst = false) : (p.runAt fences n).burstData (p.targetRun n).2 = p.meant m n := by
  cases p with
  | copy | read => cases hdirect
  | fill v w h index => simp [StoreOp.burstData, StoreParams.runAt, StoreOp.checking, StoreParams.meant,
      StoreParams.valueAt, StoreParams.targetRun_eq, List.map_const', StoreParams.lenOf]
  | write v indices =>
    have hn : n < burstsOf indices.length := by
      simpa [StoreParams.steps, StoreParams.height, StoreParams.width] using hn
    have hcut : (StoreParams.write v indices).cut n = (0, 64 * n, min 64 (indices.length - 64 * n)) := by
      rw [StoreParams.cut_ascending (by simp [StoreParams.descending])]
      simp only [StoreParams.width, Nat.div_eq_of_lt hn, Nat.mod_eq_of_lt hn]
    have hdata : (StoreParams.write v indices).meant m n =
        (List.range (min 64 (indices.length - 64 * n))).map fun k => indices.getD (64 * n + k) 0 := by
      simp only [StoreParams.meant, StoreParams.colOf, StoreParams.lenOf, hcut,
        StoreParams.valueAt]
    rw [hdata, StoreParams.targetRun_eq, hcut]
    show (indices.drop (64 * n)).take (min 64 (indices.length - 64 * n)) = _
    refine List.ext_getElem (by simp) fun k hk _ => ?_
    simp only [List.length_take, List.length_drop] at hk
    simp only [List.getElem_take, List.getElem_drop, List.getElem_map, List.getElem_range]
    rw [List.getD_eq_getElem]

/-- A copy's write burst carries what it means: no step before has written its source (R113, R114). -/
theorem StoreParams.heldOctets_eq {src dst : View} {w h : Nat} {m : Memory} (hwf : Memory.Wf m)
    (hp : (StoreParams.copy src dst w h).Passed) (hn : n < (StoreParams.copy src dst w h).steps) :
    Memory.readRun ((StoreParams.copy src dst w h).stored fences m n)
      ((StoreParams.copy src dst w h).originRun n).1 ((StoreParams.copy src dst w h).originRun n).2 =
      (StoreParams.copy src dst w h).meant m n := by
  refine List.map_congr_left fun k hk => ?_
  have hk := List.mem_range.1 hk
  obtain ⟨hrow', hcol'⟩ := StoreParams.step_point hn hk
  rw [StoreParams.originRun_eq, ← View.at_add]
  refine StoreParams.read_stored_other hwf (.inr fun i hi j hj => ?_)
  obtain ⟨hrow, hcol⟩ := StoreParams.step_point (hi.trans hn) hj
  exact StoreParams.source_unwritten hp hrow hcol hrow' hcol' (StoreParams.steps_before hi hn hj hk)

end

/-! ### The run -/

section
variable {s : State} {q : Queued} {p : StoreParams} {fences : List Fence} {m : Memory} {n : Nat}

/-- The operation with `n` steps done goes on in the store that they left. -/
def StoreParams.standsAt (p : StoreParams) (fences : List Fence) (m : Memory) (s : State)
    (n : Nat) : State :=
  engineAt (p.runAt fences n) (s.storing (p.stored fences m n))

/-- A step clipped whole takes no burst (R104). -/
theorem StoreParams.standsAt_clipped (hwrites : p.writes = true) (hn : n < p.steps)
    (hclip : clippedIn fences (p.targetRun n).1 (p.targetRun n).2 = (p.targetRun n).2) :
    p.standsAt fences m s n = p.standsAt fences m s (n + 1) := by
  simp only [StoreParams.standsAt, engineAt, advanceOperation, StoreParams.settled_clipped hwrites hn hclip,
    StoreParams.stored_clipped m hclip]

variable (h : StoreAlone s q) (hp : p.Passed) (hn : n < p.steps)
include h hp hn

/-- The write burst of a step leads to the next (R99). -/
theorem StoreParams.exec_stepBurst {held : List Byte} {op : StoreOp}
    (hop : op = { p.runAt fences n with held := held })
    (hdata : op.burstData (p.targetRun n).2 = p.meant m n) :
    exec .ceBurstComplete ((s.storing (p.stored fences m n)).bursting op
      ⟨true, (p.targetRun n).1, (p.targetRun n).2⟩) = .next (p.standsAt fences m s (n + 1)) := by
  rw [exec_writeBurst (h.storing _) (by rw [hop]; rfl) (StoreParams.step_inStore hp hn).2 rfl, hdata]
  subst hop
  exact congrArg Host.Outcome.next (congrArg (engineAt · _) (StoreParams.runAt_burst held true))

/-- A step of a write or a fill that is not clipped whole takes one burst (R109, R111). -/
theorem StoreParams.standsAt_direct (hwrites : p.writes = true) (hdirect : p.readsFirst = false)
    (hsettled : (p.runAt fences n).settled = p.runAt fences n) (k : Nat) :
    engineBursts (k + 1) (p.standsAt fences m s n) = engineBursts k (p.standsAt fences m s (n + 1)) := by
  have hrequest : (p.runAt fences n).settled.firstRequest =
      some ⟨true, (p.targetRun n).1, (p.targetRun n).2⟩ := by
    rw [hsettled, StoreOp.firstRequest, if_pos (by exact hn), if_neg (by exact ne_true_of_eq_false hdirect)]
    rfl
  rw [StoreParams.standsAt, engineAt_request (h.storing _) hrequest, hsettled]
  exact engineBursts_succ (StoreParams.exec_stepBurst h hp hn (held := []) rfl
    (StoreParams.burstData_direct m hn hwrites hdirect)) k

/-- A step of a copy that is not clipped whole takes a read burst and a write burst (R114). -/
theorem StoreParams.standsAt_copy (hwf : Memory.Wf m) {src dst : View} {w h' : Nat}
    (hcopy : p = .copy src dst w h') (hsettled : (p.runAt fences n).settled = p.runAt fences n) (k : Nat) :
    engineBursts (k + 2) (p.standsAt fences m s n) = engineBursts k (p.standsAt fences m s (n + 1)) := by
  obtain ⟨horigin, -⟩ := StoreParams.step_inStore hp hn
  have hrequest : (p.runAt fences n).settled.firstRequest =
      some ⟨false, (p.originRun n).1, (p.originRun n).2⟩ := by
    rw [hsettled, StoreOp.firstRequest, if_pos (by exact hn), if_pos (by subst hcopy; rfl)]
    rfl
  have hheld : Memory.readRun (p.stored fences m n) (p.originRun n).1 (p.originRun n).2 = p.meant m n := by
    subst hcopy
    exact StoreParams.heldOctets_eq hwf hp hn
  have hdata : StoreOp.burstData { p.runAt fences n with held := p.meant m n } (p.targetRun n).2 =
      p.meant m n := by
    subst hcopy
    exact List.take_of_length_le (by rw [StoreParams.meant_length]; exact le_rfl)
  rw [StoreParams.standsAt, engineAt_request (h.storing _) hrequest, hsettled,
    engineBursts_succ (exec_copyBurst (h.storing _) rfl horigin rfl (by subst hcopy; rfl)) (k + 1)]
  refine engineBursts_succ (StoreParams.exec_stepBurst h hp hn (held := p.meant m n) ?_ ?_) k
  · rw [← hheld]; rfl
  · rw [← hdata, ← hheld]; rfl

omit hn

/-- The bursts left of a write operation lead to its answer, two for each step at most. -/
theorem StoreParams.engineBursts_write (hwf : Memory.Wf m) (hwrites : p.writes = true) (left : Nat) :
    ∀ n, n + left = p.steps → ∃ bursts ≤ 2 * left, engineBursts bursts (p.standsAt fences m s n) =
      some ((s.storing (p.stored fences m p.steps)).completed q .ok
        (toOctets 3 (p.countTargets fun a => !clippedBy fences a) ++
          toOctets 3 (p.countTargets fun a => clippedBy fences a))) := by
  induction left with
  | zero =>
    rintro n rfl
    have hsettled : (p.runAt fences p.steps).settled = p.runAt fences p.steps :=
      StoreParams.settled_stays fun hlt => absurd hlt.1 (lt_irrefl _)
    have hrequest : (p.runAt fences p.steps).settled.firstRequest = none := by
      rw [hsettled]
      exact if_neg (lt_irrefl p.steps)
    refine ⟨0, le_rfl, ?_⟩
    rw [engineBursts, StoreParams.standsAt, engineAt_done (h.storing _) hrequest, hsettled,
      if_pos (by exact hwrites), StoreParams.runAt_counts hp]
  | succ left ih =>
    intro n hn
    have hlt : n < p.steps := by omega
    obtain ⟨bursts, hle, hrun⟩ := ih (n + 1) (by omega)
    by_cases hclip : clippedIn fences (p.targetRun n).1 (p.targetRun n).2 = (p.targetRun n).2
    · exact ⟨bursts, by omega, by rw [StoreParams.standsAt_clipped hwrites hlt hclip, hrun]⟩
    have hsettled : (p.runAt fences n).settled = p.runAt fences n :=
      StoreParams.settled_stays fun hpass => hclip hpass.2
    cases p with
    | read => cases hwrites
    | write | fill =>
      exact ⟨bursts + 1, by omega,
        by rw [StoreParams.standsAt_direct h hp hlt rfl rfl hsettled, hrun]⟩
    | copy src dst w h' =>
      exact ⟨bursts + 2, by omega, by rw [StoreParams.standsAt_copy h hp hlt hwf rfl hsettled, hrun]⟩

end

/-- Settles O46: step by step the destination takes what the operation means for it. -/
theorem storeOperationWritesFootprint : Obligations.StoreOperationWritesFootprint := by
  unfold Obligations.StoreOperationWritesFootprint
  intro s p q hwf hop hwrites hpassed hidle hexec hq hqueue _
  have hp := StoreParams.passed_of_refusal hpassed
  obtain ⟨bursts, hle, hrun⟩ := StoreParams.engineBursts_write (fences := s.os.fences)
    (StoreAlone.of_idle hidle hexec hq hqueue) hp hwf hwrites p.steps 0 (Nat.zero_add _)
  refine ⟨_, bursts, _, exec_storeChecks_passed hop hpassed, hle, hrun, rfl, ?point, ?other, rfl, rfl, rfl,
    rfl, rfl, rfl⟩
  case point =>
    intro r hr c hc hopen
    obtain ⟨n, hn, k, hk, rfl, rfl⟩ := StoreParams.exists_step hr hc
    exact StoreParams.read_stored_point hwf hp hn le_rfl hk hopen
  case other =>
    intro a hother
    refine StoreParams.read_stored_other hwf (hother.imp id fun hreach i hi k hk => ?_)
    obtain ⟨hrow, hcol⟩ := StoreParams.step_point hi hk
    exact hreach _ hrow _ hcol

end Sys2Proof.Machine
end

section
/-! The region monitor: the words of a line that a region measures, the level and stillness steps of a latch,
and the commands that set counters, mask and reports (R122, R127 to R130, R133, R188, R191). -/

namespace Sys2Proof.Machine

/-! ### Values counted one after another -/

/-- What counting values leaves alone. -/
theorem Monitor.foldl_take_frame (vs : List Nat) (m : Monitor) :
    vs.foldl Monitor.take m = { m with
      count := (vs.foldl Monitor.take m).count
      sum := (vs.foldl Monitor.take m).sum
      min := (vs.foldl Monitor.take m).min
      max := (vs.foldl Monitor.take m).max } := by
  induction vs generalizing m with
  | nil => rfl
  | cons v vs ih => exact ih (m.take v)

theorem Monitor.foldl_take_count (vs : List Nat) (m : Monitor) :
    (vs.foldl Monitor.take m).count = m.count + vs.length := by
  induction vs generalizing m with
  | nil => rfl
  | cons v vs ih =>
    rw [List.foldl_cons, ih, List.length_cons]
    simp only [Monitor.take]
    omega

theorem Monitor.foldl_take_sum (vs : List Nat) (m : Monitor) :
    (vs.foldl Monitor.take m).sum = m.sum + vs.sum := by
  induction vs generalizing m with
  | nil => rfl
  | cons v vs ih =>
    rw [List.foldl_cons, ih, List.sum_cons]
    simp only [Monitor.take]
    omega

/-- With a value counted before, each further one can only lower the minimum and raise the maximum. -/
theorem Monitor.foldl_take_bounds (vs : List Nat) {m : Monitor} (h : m.count ≠ 0) :
    (vs.foldl Monitor.take m).min = vs.foldl Min.min m.min ∧
    (vs.foldl Monitor.take m).max = vs.foldl Max.max m.max := by
  induction vs generalizing m with
  | nil => exact ⟨rfl, rfl⟩
  | cons v vs ih =>
    have hmin : (m.take v).min = Min.min m.min v := by
      simp only [Monitor.take, h, false_or]
      split_ifs <;> omega
    have hmax : (m.take v).max = Max.max m.max v := by
      simp only [Monitor.take, h, false_or]
      split_ifs <;> omega
    rw [List.foldl_cons, List.foldl_cons, List.foldl_cons, ← hmin, ← hmax]
    exact ih (Nat.succ_ne_zero _)

/-- From an empty accumulator the bounds are those of the values counted: the first value sets both. -/
theorem Monitor.foldl_take_bounds_of_empty {vs : List Nat} {m : Monitor} (h : m.count = 0) (hvs : vs ≠ []) :
    some (vs.foldl Monitor.take m).min = vs.min? ∧ some (vs.foldl Monitor.take m).max = vs.max? := by
  cases vs with
  | nil => exact absurd rfl hvs
  | cons v vs =>
    obtain ⟨hmin, hmax⟩ := Monitor.foldl_take_bounds vs (m := m.take v) (Nat.succ_ne_zero _)
    have hfirst : (m.take v).min = v ∧ (m.take v).max = v := by simp [Monitor.take, h]
    rw [List.foldl_cons, hmin, hmax, hfirst.1, hfirst.2]
    exact ⟨List.min?_cons'.symm, List.max?_cons'.symm⟩

/-! ### The words that a region measures -/

/-- The items from one position up to another are those at the positions between. -/
theorem drop_take_eq_map_filter {α : Type} (l : List α) (d : α) (a b : Nat) :
    (l.take b).drop a =
      ((List.range l.length).filter fun x => decide (a ≤ x ∧ x < b)).map (l.getD · d) := by
  induction l using List.reverseRecOn with
  | nil => simp
  | append_singleton l p ih =>
    have hold : ((List.range l.length).filter fun x => decide (a ≤ x ∧ x < b)).map ((l ++ [p]).getD · d) =
        (l.take b).drop a := by
      rw [ih]
      refine List.map_congr_left fun x hx => ?_
      exact List.getD_append _ _ _ _ (List.mem_range.1 (List.mem_of_mem_filter hx))
    have hlast : (l ++ [p]).getD l.length d = p := by simp
    rw [List.length_append, List.length_singleton, List.range_succ, List.filter_append, List.map_append,
      hold, List.filter_singleton]
    by_cases hb : l.length < b
    · rw [List.take_of_length_le (by simpa using hb), List.take_of_length_le hb.le]
      by_cases ha : a ≤ l.length
      · simp [List.drop_append_of_le_length ha, ha, hb]
      · rw [List.drop_of_length_le (by simp; omega), List.drop_of_length_le (by omega)]
        simp [ha]
    · rw [List.take_append_of_le_length (Nat.le_of_not_lt hb)]
      simp [hb]

/-- The values that a region measures are those of the words at its positions below the width (R122). -/
theorem measuredWords_luma (r : Region) (width : Nat) (words : List Pixel) :
    (measuredWords r width words).map luma =
      ((List.range words.length).filter fun x => decide (r.x0 ≤ x ∧ x ≤ r.x1 ∧ x < width)).map
        fun x => luma (words.getD x 0) := by
  have hposition (x : Nat) :
      decide (r.x0 ≤ x ∧ x < min (r.x1 + 1) width) = decide (r.x0 ≤ x ∧ x ≤ r.x1 ∧ x < width) :=
    decide_eq_decide.2 (by omega)
  simp only [measuredWords, drop_take_eq_map_filter words 0, List.map_map, hposition, Function.comp_def]

/-! ### A line taken by RMON -/

/-- A measuring region counts the values of its words on the lines of its rectangle (R122). -/
theorem accumulateRegion_measuring {r : Region} {y : Nat} (h : r.measure = true ∧ r.y0 ≤ y ∧ y ≤ r.y1)
    (g : Geometry) (words : List Pixel) (m : Monitor) : accumulateRegion r g y words m =
      ((measuredWords r g.width words).map luma).foldl Monitor.take m := by
  rw [accumulateRegion, if_pos h, List.foldl_map]

/-- Every other region is untouched (R122). -/
theorem accumulateRegion_other {r : Region} {y : Nat} (h : ¬ (r.measure = true ∧ r.y0 ≤ y ∧ y ≤ r.y1))
    (g : Geometry) (words : List Pixel) (m : Monitor) : accumulateRegion r g y words m = m := by
  rw [accumulateRegion, if_neg h]

/-- The record held at an index. -/
theorem RegionMonitor.monitor_eq {x : RegionMonitor} {i : Nat} {m : Monitor} (h : x.monitors[i]? = some m) :
    x.monitor i = m := by
  rw [RegionMonitor.monitor, List.getD_eq_getElem?_getD, h, Option.getD_some]

/-- An ACTIVE line taken goes into each record by that record's region (R122). -/
theorem accumulateLine_record {s : State} {y i : Nat} {m : Monitor} (words : List Pixel)
    (hmeasuring : s.mon.measuring = true) (htimed : s.out.inputTimed = true)
    (hy : y < s.out.geometry.active) (hm : s.mon.monitors[i]? = some m) :
    (accumulateLine y words s).mon.monitors[i]? =
      some (accumulateRegion (s.ct.activeSet.region i) s.out.geometry y words m) := by
  rw [accumulateLine, if_pos ⟨hmeasuring, htimed, hy⟩, State.withMon_mon]
  simp [hm]

/-- Settles O55: a region's record takes the values of its words one after another. -/
theorem monitorTakesActiveLine : Obligations.MonitorTakesActiveLine := by
  unfold Obligations.MonitorTakesActiveLine
  intro s y i words m hmeasuring htimed hy hm
  have hrecord := accumulateLine_record words hmeasuring htimed hy hm
  rw [hrecord, RegionMonitor.monitor_eq hrecord]
  refine ⟨?record, fun taken htaken hmeasure hfirst hlast => ?figures⟩
  case record =>
    split_ifs with htakes
    · rw [accumulateRegion_measuring htakes, ← Monitor.foldl_take_frame]
    · rw [accumulateRegion_other htakes]
  case figures =>
    rw [accumulateRegion_measuring ⟨hmeasure, hfirst, hlast⟩, measuredWords_luma, ← htaken]
    exact ⟨Monitor.foldl_take_count _ _, Monitor.foldl_take_sum _ _,
      fun hempty hsome => Monitor.foldl_take_bounds_of_empty hempty hsome⟩

/-! ### Level and stillness -/

/-- A level other than the one before is reported, but for UNKNOWN and for IN_RANGE after it (R128). -/
theorem levelReported_iff (old new : Level) : levelReported old new = true ↔
    new = .low ∧ old ≠ .low ∨ new = .high ∧ old ≠ .high ∨
      new = .inRange ∧ (old = .low ∨ old = .high) := by
  cases old <;> cases new <;> decide

/-- Step 2 of a latch with a mean (R127, R128). -/
theorem latchLevel_some {m : Measurement} {mean : Nat} (h : m.mean = some mean) (i : Nat) (s : State)
    {new : Level} (hnew : levelOf (s.ct.activeSet.region i).threshold mean = new) :
    latchLevel i m s =
      if levelReported (s.mon.monitor i).level new = true then
        offer (.level i (s.mon.monitor i).level new mean)
          (s.setMonitor i { s.mon.monitor i with level := new })
      else s.setMonitor i { s.mon.monitor i with level := new } := by
  simp only [latchLevel, h, hnew]

/-- A level that obeys the rules of R127 is the one a latch finds. -/
theorem levelOf_eq {threshold : Option (Nat × Nat)} {mean : Nat} {new : Level}
    (hnone : threshold = none → new = .unknown)
    (hsome : ∀ low high, threshold = some (low, high) → low ≤ high →
      (mean < low → new = .low) ∧ (low ≤ mean → mean ≤ high → new = .inRange) ∧
      (high < mean → new = .high))
    (hordered : ∀ p ∈ threshold, p.1 ≤ p.2) : levelOf threshold mean = new := by
  cases threshold with
  | none => exact (hnone rfl).symm
  | some p =>
    obtain ⟨low, high⟩ := p
    obtain ⟨hlow, hrange, hhigh⟩ := hsome low high rfl (hordered _ rfl)
    rw [levelOf]
    split_ifs with hbelow habove
    · exact (hlow hbelow).symm
    · exact (hhigh habove).symm
    · exact (hrange (by omega) (by omega)).symm

theorem State.monitor_setMonitor_same {s : State} {i : Nat} (h : i < s.mon.monitors.length) (m : Monitor) :
    (s.setMonitor i m).mon.monitor i = m :=
  RegionMonitor.monitor_eq (by rw [State.setMonitor_mon, List.getElem?_set_self h])

@[simp] theorem State.setMonitor_setMonitor (s : State) (i : Nat) (a b : Monitor) :
    (s.setMonitor i a).setMonitor i b = s.setMonitor i b := by
  rw [State.setMonitor, State.setMonitor_mon, List.set_set]
  rfl

/-- Figures are the same as those of an earlier record that is not empty (R129). -/
theorem sameFigures_iff {previous : Option Measurement} {m : Measurement} :
    sameFigures previous m = true ↔
      ∃ q ∈ previous, 0 < q.count ∧ q.sum = m.sum ∧ q.min = m.min ∧ q.max = m.max := by
  cases previous <;> simp [sameFigures]

/-- FROZEN and MOVING behind a stillness count just set (R130). -/
theorem reportStillness_setMonitor {s : State} {i : Nat} (h : i < s.mon.monitors.length) (m : Monitor) :
    reportStillness i (s.setMonitor i m) =
      if 1 ≤ (s.ct.activeSet.region i).freezeLimit ∧
          (s.ct.activeSet.region i).freezeLimit ≤ m.stillness ∧ m.frozen = false then
        offer (.frozen i m.stillness) (s.setMonitor i { m with frozen := true })
      else if m.stillness = 0 ∧ m.frozen = true then
        offer (.moving i m.stillness) (s.setMonitor i { m with frozen := false })
      else s.setMonitor i m := by
  simp only [reportStillness, State.monitor_setMonitor_same h, State.setMonitor_ct,
    State.setMonitor_setMonitor]

/-- Step 3 of a latch that has counted words (R129, R130). -/
theorem latchStillness_counted {m : Measurement} (h : 0 < m.count) (i : Nat)
    (previous : Option Measurement) (s : State) {k : Nat}
    (hk : (if sameFigures previous m = true then stopAt 255 (s.mon.monitor i).stillness else 0) = k) :
    latchStillness i previous m s =
      reportStillness i (s.setMonitor i { s.mon.monitor i with stillness := k }) := by
  rw [latchStillness, if_neg h.ne']
  simp only [hk]

/-- Settles O56: the level and the stillness count first, then the notification each asks for. -/
theorem latchFollowsMonitorRules : Obligations.LatchFollowsMonitorRules := by
  unfold Obligations.LatchFollowsMonitorRules
  refine ⟨?level, ?stillness⟩
  case level =>
    rintro s i mean m old new hmean - rfl hnone hsome hordered
    rw [latchLevel_some hmean i s (levelOf_eq hnone hsome hordered)]
    simp only [levelReported_iff]
  case stillness =>
    rintro s i k previous m r hcount hi rfl hk
    simp only [← sameFigures_iff] at hk
    rw [latchStillness_counted hcount i previous s hk.symm, reportStillness_setMonitor hi]

/-! ### Counters, mask and reports -/

section SingleCheck

variable {s e : State} {seq code : Byte} {p d : List Byte} {st : Status} {c : Command} {check : Bool}
  {offset : Nat} {effect : State → State × Result}

/-- A command with one field check, passed, is answered as its effect says. -/
theorem handOver_checked_pass (h : Ready seq s) (hc : Command.ofCode code = some c)
    (hp : c.admits p.length = true) (hrun : ∀ x, c.run p x = checked [(check, offset)] effect x)
    (hcheck : check = true) (heffect : effect (s.accepted seq) = (e.accepted seq, .done st d)) :
    handOver seq code p s = .next (e.answered seq code st d) :=
  handOver_done h hc hp (by rw [hrun, checked_pass (by simpa using hcheck), heffect])

/-- A command with one field check, failed, is refused at its offset and does nothing else. -/
theorem handOver_checked_fail (h : Ready seq s) (hc : Command.ofCode code = some c)
    (hp : c.admits p.length = true) (hrun : ∀ x, c.run p x = checked [(check, offset)] effect x)
    (hcheck : check = false) :
    handOver seq code p s = .next (s.answered seq code .badField [octet offset]) :=
  handOver_done h hc hp (by subst hcheck; exact hrun _)

end SingleCheck

/-- CLEAR_COUNTERS begins by clearing, and is done (R191). -/
theorem exec_clearCounters {s : State} {seq : Byte} (h : Ready seq s) :
    exec (.clearCounters seq []) s = .next ((clearCounters s).answered seq 0x03 .ok []) :=
  handOver_done (c := .clearCounters) h rfl rfl rfl

theorem fieldAt_toOctets_two {v : Nat} (h : v < 65536) : fieldAt (toOctets 2 v) 0 2 = v := by
  simpa using fieldAt_front (n := 2) h []

/-- SET_NOTIFY_MASK has a field check and an effect (R188). -/
theorem runSetNotifyMask_toOctets {v : Nat} (h : v < 65536) (s : State) :
    runSetNotifyMask (toOctets 2 v) s = checked [(decide (v < 512), 0)]
      (fun s => (s.withNq { s.nq with mask := BitVec.ofNat 9 v }, .ok)) s := by
  rw [runSetNotifyMask, fieldAt_toOctets_two h]

/-- SET_REPORT has a field check and an effect (R133). -/
theorem runSetReport_octets (i n : Byte) (s : State) :
    runSetReport [i, n] s = checked [(decide (i.toNat ≤ 15), 0)]
      (fun s => (s.setMonitor i.toNat
        { s.mon.monitor i.toNat with interval := n.toNat, countdown := n.toNat }, .ok)) s := by
  have hindex : fieldAt [i, n] 0 1 = i.toNat := by rw [fieldAt_one, octetAt_head]
  have hinterval : fieldAt [i, n] 1 1 = n.toNat := by rw [fieldAt_cons _ _ 0, fieldAt_single]
  rw [runSetReport, hindex, hinterval]

/-- Settles O42: each command passes or fails its one check. -/
theorem countersMaskAndReportsAreSet : Obligations.CountersMaskAndReportsAreSet := by
  unfold Obligations.CountersMaskAndReportsAreSet
  refine ⟨fun s seq hready => exec_clearCounters hready, ?mask, ?report⟩
  case mask =>
    refine fun s seq v hready => ⟨fun hlegal => ?_, fun hbad hfits => ?_⟩
    · exact handOver_checked_pass (c := .setNotifyMask)
        (e := s.withNq { s.nq with mask := BitVec.ofNat 9 v }) hready rfl rfl
        (runSetNotifyMask_toOctets (by omega)) (decide_eq_true hlegal) rfl
    · exact handOver_checked_fail (c := .setNotifyMask) hready rfl rfl
        (runSetNotifyMask_toOctets hfits) (decide_eq_false (by omega))
  case report =>
    refine fun s seq i n hready => ⟨fun hlegal => ?_, fun hbad => ?_⟩
    · exact handOver_checked_pass (c := .setReport) (e := s.setMonitor i.toNat
        { s.mon.monitor i.toNat with interval := n.toNat, countdown := n.toNat }) hready rfl rfl
        (runSetReport_octets i n) (decide_eq_true hlegal) rfl
    · exact handOver_checked_fail (c := .setReport) hready rfl rfl (runSetReport_octets i n)
        (decide_eq_false (by omega))

end Sys2Proof.Machine
end

section
/-! Packets octet by octet: what a whole packet holds, and how the parser takes it from the octets of the
packet area (R139 to R142). -/

namespace Sys2Proof.Machine

/-! ### The octets of a packet -/

theorem sealPacket_length (body : List Byte) : (sealPacket body).length = body.length + 3 := by
  simp only [sealPacket, List.length_append, List.length_singleton, toOctets_length]
  omega

/-- The body of a packet is what it was sealed from (R142). -/
@[simp] theorem packetBody_sealPacket (body : List Byte) : packetBody (sealPacket body) = body := by
  rw [packetBody, sealPacket_length]
  simp [sealPacket]

/-- A packet is sealed with the CRC of its body (R142). -/
@[simp] theorem packetCrcGood_sealPacket (body : List Byte) :
    packetCrcGood (sealPacket body) = true := by
  have hcrc : (sealPacket body).drop ((sealPacket body).length - 2) =
      toOctets 2 (crc body).toNat := by
    rw [sealPacket_length, sealPacket]
    exact List.drop_left' (by simp)
  rw [packetCrcGood, hcrc, bigEndian_toOctets, packetBody_sealPacket, decide_eq_true_eq]
  exact Nat.mod_eq_of_lt (crc body).isLt

section Fields
variable (dest src kind seq code : Byte) (payload : List Byte)

theorem packetOf_length :
    (packetOf dest src kind seq code payload).length = payload.length + 9 := by
  rw [packetOf, sealPacket_length]
  simp

@[simp] theorem packetCrcGood_packetOf :
    packetCrcGood (packetOf dest src kind seq code payload) = true := packetCrcGood_sealPacket _

/-- The fields of the header stand at their offsets (R139). -/
@[simp] theorem octetAt_packetOf :
    octetAt (packetOf dest src kind seq code payload) 0 = 0x5C ∧
    octetAt (packetOf dest src kind seq code payload) 1 = dest ∧
    octetAt (packetOf dest src kind seq code payload) 3 = kind ∧
    octetAt (packetOf dest src kind seq code payload) 4 = seq ∧
    octetAt (packetOf dest src kind seq code payload) 5 = code ∧
    octetAt (packetOf dest src kind seq code payload) 6 = octet payload.length :=
  ⟨rfl, rfl, rfl, rfl, rfl, rfl⟩

@[simp] theorem packetPayload_packetOf :
    packetPayload (packetOf dest src kind seq code payload) = payload := by
  rw [packetPayload, packetOf_length]
  simp [packetOf, sealPacket]

end Fields

/-! ### Parsing -/

@[simp] theorem setParse_setParse (p q : Option Parse) (s : State) :
    setParse p (setParse q s) = setParse p s := rfl

/-- A packet framed as R139 says: the start octet, and as many octets as its length octet asks for. -/
def Framed (p : Packet) : Prop :=
  octetAt p 0 = 0x5C ∧ (octetAt p 6).toNat ≤ 240 ∧ p.length = 9 + (octetAt p 6).toNat

theorem packetOf_framed (dest src kind seq code : Byte) {payload : List Byte}
    (h : payload.length ≤ 240) : Framed (packetOf dest src kind seq code payload) := by
  obtain ⟨hstart, -, -, -, -, hlength⟩ := octetAt_packetOf dest src kind seq code payload
  refine ⟨hstart, ?_, ?_⟩ <;> simp only [hlength, octet_toNat, packetOf_length] <;> omega

/-- The start octet begins a packet (R140). -/
theorem feedOctet_start {s : State} {n : Nat} (h : s.mlu.parse = some ⟨n, false, []⟩) :
    feedOctet s 0x5C = setParse (some ⟨n + 1, false, [0x5C]⟩) s := by
  simp [feedOctet, h]

theorem octetAt_take {p : Packet} {i k : Nat} (h : i < k) : octetAt (p.take k) i = octetAt p i := by
  simp [octetAt, List.getD_eq_getElem?_getD, h]

section Octet
variable {p : Packet} {s : State} {n k : Nat} (hp : Framed p) (hk : 1 ≤ k) (hlt : k < p.length)
  (hs : s.mlu.parse = some ⟨n + k, false, p.take k⟩)
include hp hk hlt hs

/-- The next octet of a framed packet: it is complete with its last octet, and not before (R140, R141). -/
theorem feedOctet_next : feedOctet s (p[k]) =
    if k + 1 = p.length then takePacket p (setParse (some ⟨n + p.length, false, []⟩) s)
    else setParse (some ⟨n + (k + 1), false, p.take (k + 1)⟩) s := by
  obtain ⟨-, hsmall, hlength⟩ := hp
  have htake : p.take k ++ [p[k]] = p.take (k + 1) := by simp
  have hopen : p.take k ≠ [] := by
    rw [← List.length_pos_iff_ne_nil, List.length_take]; omega
  have hlen : (p.take (k + 1)).length = k + 1 := by rw [List.length_take]; omega
  have hlegal : ¬ (k + 1 = 7 ∧ 240 < p[k].toNat) := by
    rintro ⟨h7, hlarge⟩
    obtain rfl : k = 6 := by omega
    rw [octetAt, List.getD_eq_getElem _ _ hlt] at hsmall
    omega
  have hcomplete : (7 < k + 1 ∧ k + 1 = 9 + (octetAt (p.take (k + 1)) 6).toNat) ↔
      k + 1 = p.length := by
    constructor
    · rintro ⟨h7, h⟩
      rw [octetAt_take (by omega)] at h
      omega
    · intro h
      rw [octetAt_take (by omega)]
      omega
  simp only [feedOctet, hs, Bool.false_eq_true, if_false, htake, if_neg hopen, hlen, if_neg hlegal,
    hcomplete]
  split_ifs with hlast
  · rw [hlast, List.take_length, ← hlast]; rfl
  · rfl

end Octet

/-- A framed packet is open until its last octet (R140). -/
theorem feedOctets_take {p : Packet} (hp : Framed p) {s : State} {n : Nat}
    (hs : s.mlu.parse = some ⟨n, false, []⟩) {k : Nat} (hk : 1 ≤ k) (hlt : k < p.length) :
    (p.take k).foldl feedOctet s = setParse (some ⟨n + k, false, p.take k⟩) s := by
  induction k, hk using Nat.le_induction with
  | base =>
    have hstart : p.take 1 = [0x5C] := by
      obtain ⟨hstart, -, -⟩ := hp
      rw [List.take_succ_eq_append_getElem (i := 0) (by omega), List.take_zero, List.nil_append, ← hstart,
        octetAt, List.getD_eq_getElem _ _ (by omega)]
    rw [hstart]
    exact feedOctet_start hs
  | succ k hk ih =>
    have hklt : k < p.length := by omega
    rw [← List.take_concat_get' p k hklt, List.foldl_append, ih hklt]
    exact (feedOctet_next (s := setParse (some ⟨n + k, false, p.take k⟩) s) hp hk hklt rfl).trans
      (by simp [hlt.ne])

/-- A framed packet is taken whole with its last octet (R140, R142). -/
theorem feedOctets_framed {p : Packet} (hp : Framed p) {s : State} {n : Nat}
    (hs : s.mlu.parse = some ⟨n, false, []⟩) :
    p.foldl feedOctet s = takePacket p (setParse (some ⟨n + p.length, false, []⟩) s) := by
  obtain ⟨-, -, hlength⟩ := id hp
  obtain ⟨k, hk⟩ : ∃ k, p.length = k + 1 := Nat.exists_eq_add_one.2 (by omega)
  have hlt : k < p.length := by omega
  have hone : 1 ≤ k := by omega
  have hsplit : p = p.take k ++ [p[k]] := by
    rw [List.take_concat_get' p k hlt, ← hk, List.take_length]
  calc p.foldl feedOctet s
      = feedOctet ((p.take k).foldl feedOctet s) p[k] := by
        conv_lhs => rw [hsplit, List.foldl_append]
        rfl
    _ = feedOctet (setParse (some ⟨n + k, false, p.take k⟩) s) p[k] := by
        rw [feedOctets_take hp hs hone hlt]
    _ = takePacket p (setParse (some ⟨n + p.length, false, []⟩) s) :=
        (feedOctet_next (s := setParse (some ⟨n + k, false, p.take k⟩) s) hp hone hlt rfl).trans
          (if_pos hk.symm)

/-- Settles O57: a packet is framed by its length octet, and a framed packet is taken whole. -/
theorem packetIsParsedWhole : Obligations.PacketIsParsedWhole := by
  unfold Obligations.PacketIsParsedWhole
  intro s n dest src kind seq code payload hparse hlength
  refine ⟨packetCrcGood_packetOf .., ?_⟩
  rw [feedOctets_framed (packetOf_framed dest src kind seq code hlength) hparse, packetOf_length,
    Nat.add_assoc]

end Sys2Proof.Machine
end

section
/-! Packets taken from an arriving line: forwarded, handed to intake, counted, or an ENUM obeyed, by the first
row of R143 that applies (R143 to R150). -/

namespace Sys2Proof.Machine

/-! ### Forwarding -/

/-- A packet is passed on from the line arriving (R149, R150). -/
theorem forwardPacket_eq_passing {s : State} {l : InputLine} (h : s.rtu.cur = some l) (p : Packet) :
    forwardPacket p s = s.passing p l := by
  cases hlock : s.rtu.lock <;> simp only [forwardPacket, State.passing, hlock, h] <;> rfl

theorem passing_reachable (s : State) (p : Packet) (l : InputLine) :
    (s.passing p l).reachable = s.reachable := by
  unfold State.passing
  split_ifs <;> rfl

theorem reachable_of {s : State} (hreset : s.resetLow = false) (hclearing : s.os.clearing = false) :
    s.reachable = true := by simp [State.reachable, hreset, hclearing]

/-! ### The rows of R143 -/

/-- The first row: a bad CRC. -/
theorem takePacket_badCrc {p : Packet} (s : State) (h : packetCrcGood p = false) :
    takePacket p s = forwardPacket p (s.withMlu { s.mlu with crcErrors := countUp s.mlu.crcErrors }) := by
  simp only [takePacket, h, Bool.not_false, if_true]

section Good
variable {s : State} {dest src kind seq code : Byte} {payload : List Byte} {p : Packet}

/-- The rows behind the first, for a packet with its fields. -/
theorem takePacket_good (hp : p = packetOf dest src kind seq code payload) : takePacket p s =
    if kind = 0x01 ∧ dest.toNat = s.mlu.address ∧ 1 ≤ s.mlu.address ∧ s.mlu.address ≤ 30 then
      intakeAddressed seq code payload s
    else if kind = 0x01 ∧ dest.toNat = 31 then
      if code = nodeResetCode ∧ s.rtu.lock ≠ .locked then
        eitherOrder (forwardPacket p) (takeBroadcast p) s
      else takeBroadcast p (forwardPacket p s)
    else if kind = 0x04 then takeEnum p s
    else forwardPacket p s := by
  subst hp
  obtain ⟨-, hdest, hkind, hseq, hcode, -⟩ := octetAt_packetOf dest src kind seq code payload
  simp only [takePacket, packetCrcGood_packetOf, hdest, hkind, hseq, hcode, packetPayload_packetOf,
    Bool.not_true, Bool.false_eq_true, if_false]

/-- The second row: a COMMAND to the own address. -/
theorem takePacket_own (hp : p = packetOf dest src 0x01 seq code payload)
    (h : dest.toNat = s.mlu.address) (hlow : 1 ≤ s.mlu.address) (hhigh : s.mlu.address ≤ 30) :
    takePacket p s = intakeAddressed seq code payload s := by
  rw [takePacket_good hp, if_pos ⟨rfl, h, hlow, hhigh⟩]

/-- The third row: a COMMAND to 31. -/
theorem takePacket_broadcast (hp : p = packetOf 31 src 0x01 seq code payload) : takePacket p s =
    if code = nodeResetCode ∧ s.rtu.lock ≠ .locked then
      eitherOrder (forwardPacket p) (takeBroadcast p) s
    else takeBroadcast p (forwardPacket p s) := by
  have h31 : (31 : Byte).toNat = 31 := rfl
  rw [takePacket_good hp, if_neg (by omega), if_pos ⟨rfl, h31⟩]

/-- The fourth row: an ENUM. -/
theorem takePacket_enum (hp : p = packetOf dest src 0x04 seq code payload) :
    takePacket p s = takeEnum p s := by
  have hkind : ¬ (0x04 : Byte) = 0x01 := by decide
  rw [takePacket_good hp, if_neg fun h => hkind h.1, if_neg fun h => hkind h.1, if_pos rfl]

/-- The last row: any other kind, or a COMMAND to neither 31 nor the own address. -/
theorem takePacket_other (hp : p = packetOf dest src kind seq code payload) (hkind : kind ≠ 0x04)
    (h : kind = 0x01 → dest.toNat ≠ 31 ∧ (dest.toNat = s.mlu.address → s.mlu.address = 0)) :
    takePacket p s = forwardPacket p s := by
  rw [takePacket_good hp, if_neg, if_neg fun ⟨hcommand, hdest⟩ => (h hcommand).1 hdest, if_neg hkind]
  rintro ⟨hcommand, hdest, hlow, -⟩
  have := (h hcommand).2 hdest
  omega

end Good

/-! ### Broadcast commands (R145) -/

section Broadcast
variable {s : State} {src seq code : Byte} {payload : List Byte} {p : Packet}
  (hp : p = packetOf 31 src 0x01 seq code payload)
include hp

/-- COMMIT and NODE_RESET are handed to broadcast intake. -/
theorem takeBroadcast_intake (h : code = commitCode ∨ code = nodeResetCode) :
    takeBroadcast p s = intakeBroadcast code payload s := by
  subst hp
  simp [takeBroadcast, h]

/-- Any other code is counted. -/
theorem takeBroadcast_misaddressed (hcommit : code ≠ commitCode) (hreset : code ≠ nodeResetCode) :
    takeBroadcast p s = s.withMlu { s.mlu with misaddressed := countUp s.mlu.misaddressed } := by
  subst hp
  simp [takeBroadcast, hcommit, hreset]

/-- Nothing but a NODE_RESET outside LOCKED leaves the order of its two acts open. -/
theorem takePacket_broadcast_forwarded {l : InputLine} (hcur : s.rtu.cur = some l)
    (h : code = nodeResetCode → s.rtu.lock = .locked) :
    takePacket p s = takeBroadcast p (s.passing p l) := by
  rw [takePacket_broadcast hp, if_neg fun ⟨hcode, hlock⟩ => hlock (h hcode),
    forwardPacket_eq_passing hcur]

end Broadcast

theorem exec_broadcastCommit_reachable {s : State} (p : List Byte) (h : s.reachable = true) :
    exec (.broadcastCommit p) s = .next (intakeBroadcast commitCode p s) := if_pos h

theorem exec_broadcastReset_reachable {s : State} (seq : Byte) (p : List Byte)
    (h : s.reachable = true) :
    exec (.nodeReset true seq p) s = .next (intakeBroadcast nodeResetCode p s) := if_pos h

/-- The count of misaddressed packets and the forwarding do not touch each other. -/
theorem passing_misaddressed (s : State) (p : Packet) (l : InputLine) :
    (s.passing p l).withMlu { (s.passing p l).mlu with
      misaddressed := countUp (s.passing p l).mlu.misaddressed } =
    State.passing { s with mlu := { s.mlu with misaddressed := countUp s.mlu.misaddressed } } p l := by
  unfold State.passing
  split_ifs <;> rfl

/-- A broadcast NODE_RESET leaves the line arriving (R178, R179). -/
theorem intakeBroadcast_reset_cur (p : List Byte) (s : State) :
    (intakeBroadcast nodeResetCode p s).rtu.cur = s.rtu.cur := by
  simp only [intakeBroadcast, intakeBroadcastReset, if_true]
  split_ifs
  · simp [performReset, resetBlocks]
  · simp

/-- A broadcast NODE_RESET outside LOCKED is forwarded and obeyed in either order (log 27). -/
theorem takePacket_reset_unlocked {s : State} {src seq : Byte} {payload : List Byte} {p : Packet}
    {l : InputLine} (hp : p = packetOf 31 src 0x01 seq nodeResetCode payload)
    (hcur : s.rtu.cur = some l) (hlock : s.rtu.lock ≠ .locked) (hreach : s.reachable = true) :
    exec (.nodeReset true seq payload) (State.passing { s with free := s.free + 1 } p l) =
      .next (takePacket p s) ∨
    ∃ t, exec (.nodeReset true seq payload) { s with free := s.free + 1 } = .next t ∧
      takePacket p s = t.passing p l := by
  obtain ⟨x, hx, hxcur, hxreach⟩ : ∃ x, x = s.withFree (s.free + 1) ∧ x.rtu.cur = some l ∧
      x.reachable = true := ⟨_, rfl, hcur, hreach⟩
  have hintake (y : State) := takeBroadcast_intake (s := y) hp (.inr rfl)
  rw [takePacket_broadcast hp, if_pos ⟨rfl, hlock⟩, eitherOrder, ← hx,
    show { s with free := s.free + 1 } = x from hx.symm]
  cases Config.freeBit s.free
  · refine .inr ⟨_, exec_broadcastReset_reachable seq payload hxreach, ?_⟩
    rw [if_neg Bool.false_ne_true, hintake]
    exact forwardPacket_eq_passing ((intakeBroadcast_reset_cur payload x).trans hxcur) p
  · left
    rw [if_pos rfl, hintake, forwardPacket_eq_passing hxcur]
    exact exec_broadcastReset_reachable seq payload ((passing_reachable x p l).trans hxreach)

/-! ### ENUM (R146 to R148) -/

/-- An ENUM goes on with another hop count and its CRC computed anew (R147). -/
theorem raisedHop_packetOf (dest src kind seq code h : Byte) (rest : List Byte) (hop : Nat) :
    raisedHop (packetOf dest src kind seq code (h :: rest)) hop =
      packetOf dest src kind seq code (octet (hop + 1) :: rest) := by
  simp [raisedHop, packetOf]

/-- An ENUM gives the node its address and resets the engine's window (R147, R148). -/
theorem takeEnum_hop {s : State} {l : InputLine} {dest src seq code h : Byte} {rest : List Byte}
    (hcur : s.rtu.cur = some l) :
    takeEnum (packetOf dest src 0x04 seq code (h :: rest)) s =
      State.passing { s with
        mlu := { s.mlu with address := if h.toNat ≤ 29 then h.toNat + 1 else 0 }
        ce := { s.ce with lastSeq := none, cache := [] } }
        (packetOf dest src 0x04 seq code
          ((if h.toNat ≤ 29 then octet (h.toNat + 1) else h) :: rest)) l := by
  simp only [takeEnum, packetPayload_packetOf, raisedHop_packetOf]
  split_ifs <;> exact forwardPacket_eq_passing (by exact hcur) _

/-- Settles O58, row by row. -/
theorem takenPacketsAreDisposed : Obligations.TakenPacketsAreDisposed := by
  unfold Obligations.TakenPacketsAreDisposed
  refine ⟨fun s l p hcur hcrc => ?badCrc, fun s dest src seq code payload _ => takePacket_own rfl,
    fun s l dest src kind seq code payload p hcur _ hp => ?passed,
    fun s l src seq code payload p hcur _ hp => ?broadcast,
    fun s dest src seq code h rest l _ hcur => ?enum⟩
  case badCrc =>
    rw [takePacket_badCrc s hcrc]
    exact forwardPacket_eq_passing (by exact hcur) p
  case passed =>
    have hpass := forwardPacket_eq_passing hcur p
    refine ⟨fun hkind hdest hown => ?_, fun hcommand henum => ?_, fun hkind hempty => ?_⟩
    · subst hkind
      rw [takePacket_other hp (by decide) fun _ => ⟨hdest, hown⟩, hpass]
    · rw [takePacket_other hp henum fun h => absurd h hcommand, hpass]
    · subst hkind hempty
      rw [takePacket_enum hp, ← hpass, takeEnum, hp, packetPayload_packetOf]
  case broadcast =>
    refine ⟨fun hcommit hreset => ?_, fun hlow hclearing hcode => ?_, fun hlow hclearing hcode hlock => ?_,
      fun hlow hclearing hcode hlock => ?_⟩
    · rw [takePacket_broadcast_forwarded hp hcur fun h => absurd h hreset,
        takeBroadcast_misaddressed hp hcommit hreset, passing_misaddressed]
    · rw [takePacket_broadcast_forwarded hp hcur fun h => absurd (hcode.symm.trans h) (by decide),
        takeBroadcast_intake hp (.inl hcode), hcode]
      exact exec_broadcastCommit_reachable _ (by rw [passing_reachable, reachable_of hlow hclearing])
    · rw [takePacket_broadcast_forwarded hp hcur fun _ => hlock, takeBroadcast_intake hp (.inr hcode), hcode]
      exact exec_broadcastReset_reachable _ _ (by rw [passing_reachable, reachable_of hlow hclearing])
    · subst hcode
      exact takePacket_reset_unlocked hp hcur hlock (reachable_of hlow hclearing)
  case enum =>
    rw [takePacket_enum rfl, takeEnum_hop hcur]

end Sys2Proof.Machine
end

section
/-! The insertion of a line: which packets an assembly inserts, and the queues that it leaves (R146, R151 to
R154, R157, R165, R185). -/

namespace Sys2Proof.Machine

/-! ### Lists by turns -/

/-- Behind a packet of one list the turn is the other's. -/
theorem alternate_cons {α : Type} (x : α) (xs ys : List α) :
    alternate (x :: xs) ys = x :: alternate ys xs := by
  induction ys generalizing x xs with
  | nil => cases xs <;> rfl
  | cons y ys ih =>
    cases xs with
    | nil => cases ys <;> rfl
    | cons x' xs => rw [alternate, ih, alternate]

/-- Two lists by turns from either one. -/
def byTurns {α : Type} (firstTurn : Bool) (xs ys : List α) : List α :=
  if firstTurn then alternate xs ys else alternate ys xs

theorem byTurns_nil {α : Type} (firstTurn : Bool) : byTurns firstTurn ([] : List α) [] = [] := by
  cases firstTurn <;> rfl

theorem byTurns_first {α : Type} {firstTurn : Bool} (x : α) (xs : List α) {ys : List α}
    (h : ys = [] ∨ firstTurn = true) :
    byTurns firstTurn (x :: xs) ys = x :: byTurns false xs ys := by
  obtain rfl | rfl := h
  · cases firstTurn
    · cases xs <;> rfl
    · exact alternate_cons x xs []
  · exact alternate_cons x xs ys

theorem byTurns_second {α : Type} {firstTurn : Bool} (y : α) {xs : List α} (ys : List α)
    (h : xs = [] ∨ firstTurn = false) :
    byTurns firstTurn xs (y :: ys) = y :: byTurns true xs ys := by
  obtain rfl | rfl := h
  · cases firstTurn
    · exact alternate_cons y ys []
    · cases ys <;> rfl
  · exact alternate_cons y ys xs

/-! ### What an emission leaves -/

/-- The state behind the emission of `i` responses and `j` notifications (R154, R157, R165, R185). -/
def State.emitted (s : State) (i j : Nat) : State :=
  { s with
    ce := { s.ce with
      responses := s.ce.responses.drop i
      discardedSince := if i = 0 then s.ce.discardedSince else 0
      slot := if (s.ce.responses.take i).any (fun r => r.immediate) then .free else s.ce.slot }
    nq := { s.nq with
      entries := s.nq.entries.drop j, lost := if j = 0 then s.nq.lost else 0 }
    mlu := { s.mlu with sequence := s.mlu.sequence + BitVec.ofNat 8 j } }

theorem emitted_zero (s : State) : s.emitted 0 0 = s := by
  simp [State.emitted]

/-- One response more. -/
theorem emitResponse_emitted {s : State} {r : Response} {rest : List Response}
    (h : s.ce.responses = r :: rest) (i j : Nat) :
    (emitResponse r s).emitted i j = s.emitted (i + 1) j := by
  simp only [State.emitted, emitResponse, State.withCe, h, List.tail_cons, List.drop_succ_cons,
    List.take_succ_cons, List.any_cons, Nat.add_one_ne_zero, if_false, ite_self]
  cases r.immediate <;> simp

/-- The notification sequence runs on (R157). -/
theorem sequence_next (b : Byte) (k : Nat) : b + 1 + BitVec.ofNat 8 k = b + BitVec.ofNat 8 (k + 1) := by
  rw [Nat.add_comm, BitVec.ofNat_add, BitVec.add_assoc]
  rfl

/-- One notification more. -/
theorem emitNotification_emitted {s : State} {e : Notification} {rest : List Notification}
    (h : s.nq.entries = e :: rest) (i j : Nat) :
    (emitNotification s).emitted i j = s.emitted i (j + 1) := by
  simp only [State.emitted, emitNotification, State.withNq, State.withMlu, h, List.tail_cons,
    List.drop_succ_cons, Nat.add_one_ne_zero, if_false, ite_self, sequence_next]

/-! ### The packets that wait -/

/-- The packets of the responses eligible for line `n`, as the line would carry them (R153, R154). -/
def responsePackets (n : Nat) (s : State) : List Packet :=
  (s.ce.responses.takeWhile fun r => decide (r.eligible ≤ n)).mapIdx (emittedResponse s)

/-- The packets of the notifications eligible for line `n`, as the line would carry them (R153, R154). -/
def notificationPackets (n : Nat) (s : State) : List Packet :=
  (s.nq.entries.takeWhile fun e => decide (e.eligible ≤ n)).mapIdx (emittedNotification s)

theorem responsePacket_eq (r : Response) (s : State) : responsePacket r s = emittedResponse s 0 r := rfl

theorem notificationPacket_eq (e : Notification) (s : State) :
    notificationPacket e s = emittedNotification s 0 e := by
  simp [emittedNotification, notificationPacket, nodePacket, packetOf]

/-- A head that passes begins the packets that wait; a head that does not holds back all behind it. -/
theorem head_filter_takeWhile {α : Type} (p : α → Bool) (l : List α) :
    (l.head?.filter p = none → l.takeWhile p = []) ∧
    ∀ a, l.head?.filter p = some a → ∃ rest, l = a :: rest ∧ l.takeWhile p = a :: rest.takeWhile p := by
  cases l with
  | nil => simp
  | cons a rest => cases h : p a <;> simp [Option.filter, h]

theorem emittedResponse_next (r : Response) (s : State) (k : Nat) :
    emittedResponse s (k + 1) = emittedResponse (emitResponse r s) k := by
  funext q
  simp [emittedResponse, emitResponse]

theorem emittedNotification_next (s : State) (k : Nat) :
    emittedNotification s (k + 1) = emittedNotification (emitNotification s) k := by
  funext e
  have hlost : (emitNotification s).nq.lost = 0 := rfl
  have hsequence : (emitNotification s).mlu.sequence = s.mlu.sequence + 1 := rfl
  have haddress : (emitNotification s).mlu.address = s.mlu.address := rfl
  simp only [emittedNotification, hlost, hsequence, haddress, sequence_next, ite_self,
    Nat.add_one_ne_zero, if_false]

theorem responsePackets_none {n : Nat} {s : State} (h : eligibleResponse n s = none) :
    responsePackets n s = [] := by
  rw [responsePackets, (head_filter_takeWhile _ _).1 h, List.mapIdx_nil]

theorem responsePackets_some {n : Nat} {s : State} {r : Response} (h : eligibleResponse n s = some r) :
    ∃ rest, s.ce.responses = r :: rest ∧
      responsePackets n s = responsePacket r s :: responsePackets n (emitResponse r s) := by
  obtain ⟨rest, hqueue, htake⟩ := (head_filter_takeWhile _ _).2 r h
  refine ⟨rest, hqueue, ?_⟩
  have hrest : (emitResponse r s).ce.responses = rest := congrArg List.tail hqueue
  rw [responsePackets, htake, List.mapIdx_cons, responsePackets, hrest, responsePacket_eq]
  simp only [emittedResponse_next r]

theorem notificationPackets_none {n : Nat} {s : State} (h : eligibleNotification n s = none) :
    notificationPackets n s = [] := by
  rw [notificationPackets, (head_filter_takeWhile _ _).1 h, List.mapIdx_nil]

theorem notificationPackets_some {n : Nat} {s : State} {e : Notification}
    (h : eligibleNotification n s = some e) :
    ∃ rest, s.nq.entries = e :: rest ∧
      notificationPackets n s = notificationPacket e s :: notificationPackets n (emitNotification s) := by
  obtain ⟨rest, hqueue, htake⟩ := (head_filter_takeWhile _ _).2 e h
  refine ⟨rest, hqueue, ?_⟩
  have hrest : (emitNotification s).nq.entries = rest := congrArg List.tail hqueue
  rw [notificationPackets, htake, List.mapIdx_cons, notificationPackets, hrest, notificationPacket_eq]
  simp only [emittedNotification_next]

/-- What the choice of R152 says of the packets that wait: none does, or the one chosen comes first. -/
theorem choosePacket_cases (n : Nat) (turn : Bool) (s : State) :
    (choosePacket n turn s = none ∧ responsePackets n s = [] ∧ notificationPackets n s = []) ∨
    (∃ r rest, choosePacket n turn s = some (.response r) ∧ s.ce.responses = r :: rest ∧
      responsePackets n s = responsePacket r s :: responsePackets n (emitResponse r s) ∧
      (notificationPackets n s = [] ∨ turn = true)) ∨
    ∃ e rest, choosePacket n turn s = some (.notification e) ∧ s.nq.entries = e :: rest ∧
      notificationPackets n s = notificationPacket e s :: notificationPackets n (emitNotification s) ∧
      (responsePackets n s = [] ∨ turn = false) := by
  cases hr : eligibleResponse n s with
  | none =>
    have hrs := responsePackets_none hr
    cases he : eligibleNotification n s with
    | none => exact .inl ⟨by simp [choosePacket, hr, he], hrs, notificationPackets_none he⟩
    | some e =>
      obtain ⟨rest, hq, hes⟩ := notificationPackets_some he
      exact .inr (.inr ⟨e, rest, by simp [choosePacket, hr, he], hq, hes, .inl hrs⟩)
  | some r =>
    obtain ⟨rest, hq, hrs⟩ := responsePackets_some hr
    cases he : eligibleNotification n s with
    | none =>
      exact .inr (.inl ⟨r, rest, by simp [choosePacket, hr, he], hq, hrs,
        .inl (notificationPackets_none he)⟩)
    | some e =>
      obtain ⟨rest', hq', hes⟩ := notificationPackets_some he
      cases turn with
      | true => exact .inr (.inl ⟨r, rest, by simp [choosePacket, hr, he], hq, hrs, .inr rfl⟩)
      | false => exact .inr (.inr ⟨e, rest', by simp [choosePacket, hr, he], hq', hes, .inr rfl⟩)

/-! ### The insertion -/

/-- The packets that an assembly has still to insert: those that fit, of those that wait, by turns (R152). -/
def Assembly.remaining (a : Assembly) (s : State) : List Packet :=
  fitting a.room (byTurns a.responseTurn (responsePackets a.line s) (notificationPackets a.line s))

/-- From `s` and `a` the assembly has come to `x`, with all that remained inserted and emitted. -/
def Inserts (s : State) (a : Assembly) (x : State × Assembly) : Prop :=
  ∃ i j, i ≤ (responsePackets a.line s).length ∧ j ≤ (notificationPackets a.line s).length ∧
    a.remaining s = byTurns a.responseTurn ((responsePackets a.line s).take i)
      ((notificationPackets a.line s).take j) ∧
    x.1 = s.emitted i j ∧ x.2.inserted = a.inserted ++ (a.remaining s).flatten

/-- The assembly behind the insertion of a packet (R152). -/
def Assembly.insert (a : Assembly) (p : Packet) (responseNext : Bool) : Assembly :=
  { a with responseTurn := responseNext, room := a.room - p.length, inserted := a.inserted ++ p }

theorem fitting_cons_fits {room : Nat} {p : Packet} (ps : List Packet) (h : p.length ≤ room) :
    fitting room (p :: ps) = p :: fitting (room - p.length) ps := if_pos h

theorem fitting_cons_large {room : Nat} {p : Packet} (ps : List Packet) (h : ¬ p.length ≤ room) :
    fitting room (p :: ps) = [] := if_neg h

section Insertion
variable {s : State} {a : Assembly} {x : State × Assembly}

theorem Inserts.nothing (h : a.remaining s = []) : Inserts s a (s, a) :=
  ⟨0, 0, Nat.zero_le _, Nat.zero_le _, by simp [h, byTurns_nil], (emitted_zero s).symm, by simp [h]⟩

theorem Inserts.response {r : Response} {rest : List Response} (hqueue : s.ce.responses = r :: rest)
    (hpackets : responsePackets a.line s =
      responsePacket r s :: responsePackets a.line (emitResponse r s))
    (hturn : notificationPackets a.line s = [] ∨ a.responseTurn = true)
    (hfits : (responsePacket r s).length ≤ a.room)
    (h : Inserts (emitResponse r s) (a.insert (responsePacket r s) false) x) : Inserts s a x := by
  obtain ⟨i, j, hi, hj, htaken, hstate, hinserted⟩ := h
  have hremaining : a.remaining s = responsePacket r s ::
      (a.insert (responsePacket r s) false).remaining (emitResponse r s) := by
    rw [Assembly.remaining, hpackets, byTurns_first _ _ hturn, fitting_cons_fits _ hfits]
    rfl
  refine ⟨i + 1, j, by rw [hpackets]; exact Nat.succ_le_succ hi, hj, ?_, ?_, ?_⟩
  · rw [hremaining, htaken, hpackets, List.take_succ_cons,
      byTurns_first _ _ (hturn.imp_left fun h => by rw [h, List.take_nil])]
    rfl
  · rw [hstate, emitResponse_emitted hqueue]
  · rw [hinserted, hremaining, List.flatten_cons, ← List.append_assoc]
    rfl

theorem Inserts.notification {e : Notification} {rest : List Notification}
    (hqueue : s.nq.entries = e :: rest)
    (hpackets : notificationPackets a.line s =
      notificationPacket e s :: notificationPackets a.line (emitNotification s))
    (hturn : responsePackets a.line s = [] ∨ a.responseTurn = false)
    (hfits : (notificationPacket e s).length ≤ a.room)
    (h : Inserts (emitNotification s) (a.insert (notificationPacket e s) true) x) : Inserts s a x := by
  obtain ⟨i, j, hi, hj, htaken, hstate, hinserted⟩ := h
  have hremaining : a.remaining s = notificationPacket e s ::
      (a.insert (notificationPacket e s) true).remaining (emitNotification s) := by
    rw [Assembly.remaining, hpackets, byTurns_second _ _ hturn, fitting_cons_fits _ hfits]
    rfl
  refine ⟨i, j + 1, hi, by rw [hpackets]; exact Nat.succ_le_succ hj, ?_, ?_, ?_⟩
  · rw [hremaining, htaken, hpackets, List.take_succ_cons,
      byTurns_second _ _ (hturn.imp_left fun h => by rw [h, List.take_nil])]
    rfl
  · rw [hstate, emitNotification_emitted hqueue]
  · rw [hinserted, hremaining, List.flatten_cons, ← List.append_assoc]
    rfl

theorem insertNext_none (h : choosePacket a.line a.responseTurn s = none) :
    insertNext (s, a) = (s, a) := by
  simp only [insertNext, h]

theorem insertNext_some {c : Chosen} (h : choosePacket a.line a.responseTurn s = some c) :
    insertNext (s, a) = if 1 ≤ s.mlu.address ∧ (c.packet s).length ≤ a.room then
      (c.emit s, a.insert (c.packet s) c.responseNext) else (s, a) := by
  simp only [insertNext, h]
  rfl

end Insertion

/-- Insertion that has ended stays ended (R152). -/
theorem insertNexts_ended {x : State × Assembly} (h : insertNext x = x) (n : Nat) :
    runActs (List.replicate n insertNext) x = x := by
  induction n with
  | zero => rfl
  | succ n ih => rw [List.replicate_succ, runActs_cons, h, ih]

/-- A node with an address inserts all that remains, if it may try often enough (R146, R152). -/
theorem insertNexts_inserts {n : Nat} {s : State} {a : Assembly} (haddress : 1 ≤ s.mlu.address)
    (hn : (responsePackets a.line s).length + (notificationPackets a.line s).length ≤ n) :
    Inserts s a (runActs (List.replicate n insertNext) (s, a)) := by
  induction n generalizing s a with
  | zero =>
    have hr : responsePackets a.line s = [] := List.eq_nil_of_length_eq_zero (by omega)
    have he : notificationPackets a.line s = [] := List.eq_nil_of_length_eq_zero (by omega)
    exact .nothing (by simp [Assembly.remaining, hr, he, byTurns_nil, fitting])
  | succ n ih =>
    obtain ⟨hnone, hr, he⟩ | ⟨r, rest, hsome, hqueue, hpackets, hturn⟩ |
      ⟨e, rest, hsome, hqueue, hpackets, hturn⟩ := choosePacket_cases a.line a.responseTurn s
    · rw [insertNexts_ended (insertNext_none hnone)]
      exact .nothing (by simp [Assembly.remaining, hr, he, byTurns_nil, fitting])
    · by_cases hfits : (responsePacket r s).length ≤ a.room
      · rw [List.replicate_succ, runActs_cons, insertNext_some hsome, if_pos ⟨haddress, hfits⟩]
        rw [hpackets, List.length_cons] at hn
        refine .response hqueue hpackets hturn hfits (ih haddress ?_)
        change (responsePackets a.line (emitResponse r s)).length +
          (notificationPackets a.line s).length ≤ n
        omega
      · rw [insertNexts_ended ((insertNext_some hsome).trans (if_neg fun h => hfits h.2))]
        refine .nothing ?_
        rw [Assembly.remaining, hpackets, byTurns_first _ _ hturn, fitting_cons_large _ hfits]
    · by_cases hfits : (notificationPacket e s).length ≤ a.room
      · rw [List.replicate_succ, runActs_cons, insertNext_some hsome, if_pos ⟨haddress, hfits⟩]
        rw [hpackets, List.length_cons] at hn
        refine .notification hqueue hpackets hturn hfits (ih haddress ?_)
        change (responsePackets a.line s).length +
          (notificationPackets a.line (emitNotification s)).length ≤ n
        omega
      · rw [insertNexts_ended ((insertNext_some hsome).trans (if_neg fun h => hfits h.2))]
        refine .nothing ?_
        rw [Assembly.remaining, hpackets, byTurns_second _ _ hturn, fitting_cons_large _ hfits]

/-! ### A whole line -/

/-- The line's number is taken: what is queued from here on waits for the next line (R153). -/
def State.lineTaken (s : State) : State :=
  { s with mlu := { s.mlu with assembled := s.mlu.assembled + 1 } }

/-- The insertions of a line with nothing else at its line start. -/
def lineAssembly (words : Nat) (forward : List Packet) (s : State) : State × Assembly :=
  runActs (List.replicate (s.ce.responses.length + s.nq.entries.length) insertNext)
    (s.lineTaken, { Assembly.start (3 * words - forward.flatten.length) with line := s.mlu.assembled })

/-- With nothing else at its line start the assembly runs by itself (R151). -/
theorem assembleLine_eq (words : Nat) (forward : List Packet) (s : State) :
    assembleLine words forward s = ((lineAssembly words forward s).1,
      forward.flatten ++ (lineAssembly words forward s).2.inserted ++ List.replicate
        (3 * words - (forward.flatten ++ (lineAssembly words forward s).2.inserted).length) 0) := by
  simp only [assembleLine, assembleAmong, List.map_nil, interleaved_nil_left]
  rfl

/-- A node without an address inserts nothing (R146). -/
theorem insertNext_unaddressed {s : State} (h : s.mlu.address = 0) (a : Assembly) :
    insertNext (s, a) = (s, a) := by
  cases hchosen : choosePacket a.line a.responseTurn s with
  | none => exact insertNext_none hchosen
  | some c => rw [insertNext_some hchosen, if_neg (by omega)]

theorem assembleLine_unaddressed {s : State} (h : s.mlu.address = 0) (words : Nat)
    (forward : List Packet) : assembleLine words forward s = (s.lineTaken, forward.flatten ++
      List.replicate (3 * words - forward.flatten.length) 0) := by
  rw [assembleLine_eq, lineAssembly, insertNexts_ended (insertNext_unaddressed (by exact h) _)]
  simp [Assembly.start]

/-- A node with an address inserts by turns what fits of what waits (R151 to R154). -/
theorem assembleLine_addressed {s : State} (h : 1 ≤ s.mlu.address) (words : Nat)
    (forward : List Packet) {inserted : List Packet}
    (hinserted : inserted = fitting (3 * words - forward.flatten.length)
      (alternate (responsePackets s.mlu.assembled s) (notificationPackets s.mlu.assembled s))) :
    ∃ i j, i ≤ (responsePackets s.mlu.assembled s).length ∧
      j ≤ (notificationPackets s.mlu.assembled s).length ∧
      inserted = alternate ((responsePackets s.mlu.assembled s).take i)
        ((notificationPackets s.mlu.assembled s).take j) ∧
      assembleLine words forward s = (s.lineTaken.emitted i j, forward.flatten ++ inserted.flatten ++
        List.replicate (3 * words - forward.flatten.length - inserted.flatten.length) 0) := by
  have hresponses : (responsePackets s.mlu.assembled s).length ≤ s.ce.responses.length := by
    rw [responsePackets, List.length_mapIdx]
    exact (List.takeWhile_sublist _).length_le
  have hnotifications : (notificationPackets s.mlu.assembled s).length ≤ s.nq.entries.length := by
    rw [notificationPackets, List.length_mapIdx]
    exact (List.takeWhile_sublist _).length_le
  obtain ⟨i, j, hi, hj, htaken, hstate, hoctets⟩ := insertNexts_inserts (s := s.lineTaken)
    (a := { Assembly.start (3 * words - forward.flatten.length) with line := s.mlu.assembled })
    (n := s.ce.responses.length + s.nq.entries.length) h (Nat.add_le_add hresponses hnotifications)
  have hremaining : inserted = Assembly.remaining
      { Assembly.start (3 * words - forward.flatten.length) with line := s.mlu.assembled }
      s.lineTaken := hinserted
  rw [← hremaining] at htaken hoctets
  refine ⟨i, j, hi, hj, htaken, ?_⟩
  have hassembly : (lineAssembly words forward s).1 = s.lineTaken.emitted i j ∧
      (lineAssembly words forward s).2.inserted = inserted.flatten := ⟨hstate, hoctets⟩
  rw [assembleLine_eq, hassembly.1, hassembly.2, List.length_append, Nat.sub_sub]

end Sys2Proof.Machine
end

section
/-! Output MGMT lines on the port: the words of their area, and the lines that internal timing and input timing
start (R54, R138, R151, R185, R195). -/

namespace Sys2Proof.Machine

/-! ### The words of an area -/

/-- The words of an area give its octets back (R138). -/
theorem areaOctets_areaPixels {area : List Byte} {n : Nat} (h : area.length = 3 * n) :
    (areaPixels area).flatMap areaOctets = area := by
  have hbyte (b : Byte) : b.toNat ≤ 1023 := by have := b.isLt; omega
  have hoctet (b : Byte) : octet b.toNat = b := BitVec.ofNat_toNat 8 b |>.trans (BitVec.setWidth_eq b)
  induction n generalizing area with
  | zero => rw [List.eq_nil_of_length_eq_zero h]; rfl
  | succ n ih =>
    match area, h with
    | a :: b :: c :: rest, h =>
      simp only [List.length_cons] at h
      rw [areaPixels, List.flatMap_cons, ih (by omega),
        areaOctets_pixel ⟨hbyte a, hbyte b, hbyte c⟩, hoctet, hoctet, hoctet]
      rfl

/-! ### What an assembly looks at -/

/-- The state `t` with the queues of `s`: the engine, the notifications and the MLU. -/
def State.withQueuesOf (t s : State) : State := { t with ce := s.ce, nq := s.nq, mlu := s.mlu }

theorem withQueuesOf_of_eq {s t : State} (hce : t.ce = s.ce) (hnq : t.nq = s.nq) (hmlu : t.mlu = s.mlu) :
    t.withQueuesOf s = t := by
  rw [State.withQueuesOf, ← hce, ← hnq, ← hmlu]

/-- An insertion looks at the queues alone. -/
theorem insertNext_withQueuesOf (t : State) (x : State × Assembly) :
    insertNext (Prod.map t.withQueuesOf id x) = Prod.map t.withQueuesOf id (insertNext x) := by
  obtain ⟨s, a⟩ := x
  have hchoose : choosePacket a.line a.responseTurn (t.withQueuesOf s) =
      choosePacket a.line a.responseTurn s := rfl
  cases hchosen : choosePacket a.line a.responseTurn s with
  | none =>
    rw [insertNext_none hchosen]
    exact insertNext_none (hchoose.trans hchosen)
  | some c =>
    have hpacket : c.packet (t.withQueuesOf s) = c.packet s := by cases c <;> rfl
    have hemit : c.emit (t.withQueuesOf s) = t.withQueuesOf (c.emit s) := by cases c <;> rfl
    have haddress : (t.withQueuesOf s).mlu.address = s.mlu.address := rfl
    refine (insertNext_some (hchoose.trans hchosen)).trans ?_
    rw [insertNext_some hchosen, hpacket, hemit, haddress]
    split_ifs <;> rfl

theorem lineAssembly_withQueuesOf (words : Nat) (forward : List Packet) (t s : State) :
    lineAssembly words forward (t.withQueuesOf s) =
      Prod.map t.withQueuesOf id (lineAssembly words forward s) := by
  have hrun (n : Nat) (x : State × Assembly) :
      runActs (List.replicate n insertNext) (Prod.map t.withQueuesOf id x) =
        Prod.map t.withQueuesOf id (runActs (List.replicate n insertNext) x) := by
    induction n generalizing x with
    | zero => rfl
    | succ n ih => rw [List.replicate_succ, runActs_cons, runActs_cons, insertNext_withQueuesOf, ih]
  exact hrun (s.ce.responses.length + s.nq.entries.length) (s.lineTaken, _)

/-- The assembly of a line looks at the queues alone. -/
theorem assembleLine_withQueuesOf (words : Nat) (forward : List Packet) (t s : State) :
    assembleLine words forward (t.withQueuesOf s) =
      (t.withQueuesOf (assembleLine words forward s).1, (assembleLine words forward s).2) := by
  simp only [assembleLine_eq, lineAssembly_withQueuesOf]
  rfl

/-- An assembly leaves all but the queues. -/
theorem assembleLine_state (words : Nat) (forward : List Packet) (s : State) :
    (assembleLine words forward s).1 = s.withQueuesOf (assembleLine words forward s).1 :=
  congrArg Prod.fst (assembleLine_withQueuesOf words forward s s)

/-! ### MGMT lines -/

theorem sendPixels_portArea (frameStart : Bool) (area : List Byte) (s : State) :
    PortArea frameStart area (sendPixels .mgmt frameStart (areaPixels area) s) := rfl

/-- Away from the frame end and the activation event nothing happens beside an assembly. -/
theorem lineEventActs_none {s : State} (h : frameEndDue s = false) :
    lineEventActs false [] s = ([], s) := by
  simp [lineEventActs, dueFrameEndActs, h]

/-- The packets passed on come first (R151). -/
theorem assembleAmong_prefix (events : List (State → State)) (words : Nat) (forward : List Packet)
    (s : State) : forward.flatten <+: (assembleAmong events words forward s).2 := by
  simp only [assembleAmong]
  exact (List.prefix_append _ _).trans (List.prefix_append _ _)

/-- The assembly of an MGMT line among the events of its line start. -/
def lineAssembled (words : Nat) (forward : List Packet) (activation : Bool)
    (others : List (State → State)) (s : State) : State × List Byte :=
  assembleAmong (lineEventActs activation others s).1 words forward (lineEventActs activation others s).2

theorem mgmtLine_eq (frameStart : Bool) (words : Nat) (forward : List Packet) (activation : Bool)
    (others : List (State → State)) (s : State) : mgmtLine frameStart words forward activation others s =
      sendPixels .mgmt frameStart (areaPixels (lineAssembled words forward activation others s).2)
        (lineAssembled words forward activation others s).1 := rfl

theorem lineAssembled_none {s : State} (h : frameEndDue s = false) (words : Nat)
    (forward : List Packet) : lineAssembled words forward false [] s = assembleLine words forward s := by
  rw [lineAssembled, lineEventActs_none h]
  rfl

/-- An MGMT line carries the packets passed on, then what its assembly inserts (R151). -/
theorem mgmtLine_area (frameStart : Bool) {words : Nat} {forward : List Packet}
    (hpassed : forward.flatten.length ≤ 3 * words) (activation : Bool) (others : List (State → State))
    (s : State) : ∃ area u, mgmtLine frameStart words forward activation others s =
        sendPixels .mgmt frameStart (areaPixels area) u ∧
      area.length = 3 * words ∧ forward.flatten <+: area ∧
      (activation = false → others = [] → frameEndDue s = false →
        assembleLine words forward s = (u, area)) := by
  refine ⟨_, _, mgmtLine_eq .., assembleAmong_length _ hpassed, assembleAmong_prefix .., ?_⟩
  rintro rfl rfl hdue
  rw [lineAssembled_none hdue]

/-! ### MGMT lines of internal frames -/

theorem internalKind_mgmt {g : Geometry} {i : Nat} (hi : i ≠ 0) (hactive : i < g.firstActive)
    (hmgmt : i ≤ g.mgmt) : internalKind g i = .mgmt := by
  rw [internalKind, if_neg hi, if_neg (by omega), if_pos hmgmt]

theorem internalLine_mgmt {s : State} {i : Nat} (hi : i ≠ 0)
    (hkind : internalKind s.out.geometry i = .mgmt) : internalLine i [] s =
      mgmtLine false s.out.geometry.width [] (decide (i + 1 = s.out.geometry.firstActive)) []
        (s.withOut { s.out with line := i }) := by
  simp only [internalLine, hkind, outputLineStart, internalWords, List.length_replicate,
    decide_eq_false hi]

theorem frameEndDue_eq_false {s : State} (h : s.out.activeCount = 0 ∨ s.out.frameEnded = true) :
    frameEndDue s = false := by
  obtain h | h := h <;> simp [frameEndDue, h]

/-- The line that internal timing starts next, where it is an MGMT line (R54, R138, R151). -/
theorem internalLineStart_mgmt {s : State} (hreset : s.resetLow = false) (hrunning : s.out.running = true)
    (htimed : s.out.inputTimed = false) (hline : s.out.line + 1 < s.out.geometry.total)
    (hmgmt : s.out.line + 1 ≤ s.out.geometry.mgmt)
    (hactive : s.out.line + 1 < s.out.geometry.firstActive) :
    ∃ t area, exec .internalLineStart s = .next t ∧ PortArea false area t ∧
      area.length = 3 * s.out.geometry.width ∧
      (s.out.line + 2 ≠ s.out.geometry.firstActive →
        (s.out.activeCount = 0 ∨ s.out.frameEnded = true) →
        area = (assembleLine s.out.geometry.width [] s).2 ∧
        t = { (assembleLine s.out.geometry.width [] s).1 with
          now := max s.now (s.out.startedAt +
            (s.out.line + 1) * s.out.period / s.out.geometry.total * 1000)
          out := { s.out with line := s.out.line + 1, tx := t.out.tx } }) := by
  have hexec := exec_internalLineStart_within hreset hrunning htimed hline
  generalize s.out.startedAt + (s.out.line + 1) * s.out.period / s.out.geometry.total * 1000 = due
    at hexec ⊢
  obtain ⟨v, hv⟩ : ∃ v, v = (s.advanceTo due).withOut { s.out with line := s.out.line + 1 } := ⟨_, rfl⟩
  obtain ⟨area, u, hsent, hlength, -, hquiet⟩ := mgmtLine_area false (words := s.out.geometry.width)
    (forward := []) (Nat.zero_le _) (decide (s.out.line + 1 + 1 = s.out.geometry.firstActive)) [] v
  have hkind := internalKind_mgmt (Nat.add_one_ne_zero _) hactive hmgmt
  have hinternal := internalLine_mgmt (s := s.advanceTo due) (Nat.add_one_ne_zero _) hkind
  refine ⟨_, area, hexec.trans (congrArg _ (hinternal.trans (hv ▸ hsent))), sendPixels_portArea ..,
    hlength, fun hbefore hended => ?_⟩
  have hdue : frameEndDue v = false := by rw [hv]; exact frameEndDue_eq_false hended
  have hassembled := hquiet (decide_eq_false hbefore) rfl hdue
  rw [← withQueuesOf_of_eq (s := s) (t := v) (by rw [hv]; rfl) (by rw [hv]; rfl) (by rw [hv]; rfl),
    assembleLine_withQueuesOf] at hassembled
  obtain ⟨rfl, rfl⟩ := Prod.mk.inj hassembled
  refine ⟨rfl, ?_⟩
  rw [assembleLine_state _ _ s, hv]
  rfl

/-! ### MGMT lines in input timing -/

/-- The next line is an ACTIVE line of the same frame (R56). -/
def activeNext : Option InputLine → Bool
  | some l => decide (l.kind = .active) && !l.frameStart
  | none => false

theorem activeNext_eq_false {b : Option InputLine}
    (h : ∀ l ∈ b, l.kind = .active → l.frameStart = true) : activeNext b = false := by
  cases b with
  | none => rfl
  | some l => simpa [activeNext] using h l rfl

theorem carryLine_mgmt {a : InputLine} (ha : a.kind = .mgmt) (b : Option InputLine)
    (errors : List (State → State)) (first : Bool) (s : State) : carryLine first a b errors s =
      mgmtLine first a.words.length a.forward
        (activeNext b && decide ((lineBegun first s).out.activeCount = 0)) errors (lineBegun first s) := by
  have hcarry : carryLine first a b errors s = outputLineStart a.kind first a.words a.forward
    (activeNext b && decide ((lineBegun first s).out.activeCount = 0)) errors (lineBegun first s) := rfl
  rw [hcarry, ha]
  rfl

theorem endParseActs_none {s : State} (h : ∀ p ∈ s.mlu.parse, p.ended = true ∨ p.packet = []) :
    endParseActs s = [] := by
  unfold endParseActs
  split
  · rename_i p hparse
    obtain hended | hempty := h p hparse
    · simp [hended]
    · simp [hempty]
  · rfl

/-- Where no frame end is due a line begins without a notification, and none is due in it (R55, R57). -/
theorem lineBegun_quiet {s : State} (h : s.out.activeCount = 0 ∨ s.out.frameEnded = true) (first : Bool) :
    (lineBegun first s).ce = s.ce ∧ (lineBegun first s).nq = s.nq ∧ (lineBegun first s).mlu = s.mlu ∧
    frameEndDue (lineBegun first s) = false := by
  cases first with
  | false => exact ⟨rfl, rfl, rfl, frameEndDue_eq_false h⟩
  | true =>
    refine ⟨by simp [lineBegun], ?_, by simp [lineBegun], ?_⟩
    · simp only [lineBegun, if_true, outputFrameStart, dueFrameEndActs, frameEndDue_eq_false h,
        Bool.false_eq_true, if_false, runActs_nil, ite_self]
      simp
    · simp [lineBegun, frameEndDue, outputFrameStart_out]

theorem beginLine_mlu_less_parse (l : InputLine) (s : State) :
    (beginLine l s).mlu = { s.mlu with parse := (beginLine l s).mlu.parse } := by
  unfold beginLine beginParse
  split_ifs <;> rfl

/-- The MGMT line that an input line start begins two lines back (R51, R138, R151). -/
theorem inputLineStart_mgmt {s : State} {bits : BitVec 31} (clock : Nat) {a : InputLine}
    (hreset : s.resetLow = false) (hlock : s.rtu.lock = .locked) (htimed : s.out.inputTimed = true)
    (hbits : bits.getLsbD 4 = false) (ha : s.rtu.prev = some a) (hkind : a.kind = .mgmt)
    (hpassed : a.forward.flatten.length ≤ 3 * a.words.length) :
    ∃ t area, exec (.inputLineStart bits clock) s = .next t ∧ PortArea a.frameStart area t ∧
      area.length = 3 * a.words.length ∧ a.forward.flatten <+: area ∧
      ∀ u, u = (assembleLine a.words.length a.forward s).1 →
        (∀ l ∈ s.rtu.cur, l.kind = .active → l.frameStart = true) →
        (∀ p ∈ s.mlu.parse, p.ended = true ∨ p.packet = []) →
        (s.out.activeCount = 0 ∨ s.out.frameEnded = true) →
        area = (assembleLine a.words.length a.forward s).2 ∧
        t.ce = u.ce ∧ t.nq = u.nq ∧ t.mlu = { u.mlu with parse := t.mlu.parse } := by
  generalize hv : lineBegun a.frameStart (lineEnded clock s) = v
  obtain ⟨area, w, hsent, hlength, hprefix, hquiet⟩ := mgmtLine_area a.frameStart hpassed
    (activeNext s.rtu.cur && decide (v.out.activeCount = 0)) (endParseActs s) v
  have hexec : exec (.inputLineStart bits clock) s =
      .next (beginLine (lineOf bits) (sendPixels .mgmt a.frameStart (areaPixels area) w)) := by
    refine (whileRunning_high hreset).trans (congrArg _ ?_)
    rw [takeLineStart_timed clock hlock htimed hbits ha, carryLine_mgmt hkind, hv, hsent]
  refine ⟨_, area, hexec, by simp only [PortArea, beginLine_keeps]; rfl, hlength, hprefix, ?_⟩
  rintro u rfl hnext hparse hended
  obtain ⟨hce, hnq, hmlu, hdue⟩ := lineBegun_quiet (s := lineEnded clock s) hended a.frameStart
  rw [hv] at hce hnq hmlu hdue
  have hassembled := hquiet (by rw [activeNext_eq_false hnext, Bool.false_and])
    (endParseActs_none hparse) hdue
  rw [← withQueuesOf_of_eq (s := s) hce hnq hmlu, assembleLine_withQueuesOf] at hassembled
  obtain ⟨rfl, rfl⟩ := Prod.mk.inj hassembled
  exact ⟨rfl, by simp; rfl, by simp; rfl, beginLine_mlu_less_parse ..⟩

/-! ### An emission against an offer -/

theorem offer_room {n : Notice} {s : State} (hmask : s.nq.mask.getLsbD n.position = true)
    (h : s.nq.entries.length < 16) : offer n s = s.withNq { s.nq with
      entries := s.nq.entries ++ [⟨n, s.out.counter, s.mlu.assembled⟩] } := by
  rw [offer, offerWith, if_pos hmask, if_pos (by exact h)]

theorem offer_full {n : Notice} {s : State} (hmask : s.nq.mask.getLsbD n.position = true)
    (h : 16 ≤ s.nq.entries.length) (hlost : s.nq.lost ≤ 254) (htotal : s.nq.lostTotal ≤ 65534) :
    offer n s = s.withNq { s.nq with lost := s.nq.lost + 1, lostTotal := s.nq.lostTotal + 1 } := by
  have hlost' : stopAt 255 s.nq.lost = s.nq.lost + 1 := if_pos (by omega)
  have htotal' : countUp s.nq.lostTotal = s.nq.lostTotal + 1 := if_pos (by omega)
  rw [offer, offerWith, if_pos hmask, if_neg (by exact Nat.not_lt.2 h), hlost', htotal']

/-- Settles O59: the insertion by turns, the words of the area, the two line starts, and the two orders of an
emission and an offer. -/
theorem assemblyOrdersPackets : Obligations.AssemblyOrdersPackets := by
  unfold Obligations.AssemblyOrdersPackets
  refine ⟨fun s words forward idle _ hidle => ⟨fun haddress => ?unaddressed,
      fun responses notifications inserted haddress hresponses hnotifications hinserted => ?addressed⟩,
    fun area n h => ⟨areaPixels_length h, areaOctets_areaPixels h⟩,
    fun s => internalLineStart_mgmt, fun s bits clock a => inputLineStart_mgmt clock,
    fun s n e rest hmask hqueue hrest hlost htotal => ?offered⟩
  case unaddressed =>
    subst hidle
    exact assembleLine_unaddressed haddress words forward
  case addressed =>
    subst hidle hresponses hnotifications
    exact assembleLine_addressed haddress words forward hinserted
  case offered =>
    have hentries : s.nq.entries.length = 16 := by rw [hqueue, List.length_cons, hrest]
    have htail : (emitNotification s).nq.entries = rest := congrArg List.tail hqueue
    have hfull := offer_full hmask hentries.ge hlost htotal
    refine ⟨?_, ?_, ?_⟩
    · rw [offer_room (s := emitNotification s) hmask (by rw [htail, hrest]; decide), htail]
      rfl
    · rw [hfull]
      rfl
    · simp only [hfull, emitNotification, State.withMlu_nq, State.withNq_nq, hqueue, List.tail_cons]

end Sys2Proof.Machine
end

section
/-! The bounds of the counters, the notification queue and the node address: what offers, commands and packets
leave of them (R146, R165, R182, R183, R190). -/

namespace Sys2Proof.Machine

/-! ### The bounds, block by block -/

/-- The notification queue and its counts are within their bounds (R182, R183, R190). -/
def NotificationQueue.Bounded (q : NotificationQueue) : Prop :=
  q.entries.length ≤ 16 ∧ q.lost ≤ 255 ∧ q.lostTotal ≤ 65535

/-- The MLU's counters and the node address are within their bounds (R146, R190). -/
def ManagementUnit.Bounded (m : ManagementUnit) : Prop :=
  m.crcErrors ≤ 65535 ∧ m.framingErrors ≤ 65535 ∧ m.notForwarded ≤ 65535 ∧ m.misaddressed ≤ 65535 ∧
    m.address ≤ 30

/-- The engine's counters are within their bounds (R165, R190). -/
def CommandEngine.Bounded (c : CommandEngine) : Prop :=
  c.discarded ≤ 65535 ∧ c.duplicates ≤ 65535 ∧ c.discardedSince ≤ 255

/-- The SF has an underrun count and a reported flag for each region, the counts within bounds (R190). -/
def SpanFetcher.Bounded (f : SpanFetcher) : Prop :=
  f.underruns.length = 16 ∧ f.reported.length = 16 ∧ ∀ n ∈ f.underruns, n ≤ 65535

/-- Every counter is within its bounds. -/
def State.Bounded (s : State) : Prop :=
  s.nq.Bounded ∧ s.mlu.Bounded ∧ s.ce.Bounded ∧ s.sf.Bounded ∧ s.rtu.lockLosses ≤ 65535

theorem counterLaw_iff (s : State) : CounterLaw s ↔ s.Bounded := by
  simp only [CounterLaw, State.Bounded, NotificationQueue.Bounded, ManagementUnit.Bounded,
    CommandEngine.Bounded, SpanFetcher.Bounded]
  tauto

/-- The blocks that count are as they were, but for what the RTU holds besides its count. -/
abbrev SameCounters (s t : State) : Prop :=
  t.nq = s.nq ∧ t.mlu = s.mlu ∧ t.ce = s.ce ∧ t.sf = s.sf ∧ t.rtu.lockLosses = s.rtu.lockLosses

theorem State.Bounded.same {s t : State} (h : s.Bounded) (hsame : SameCounters s t) : t.Bounded := by
  obtain ⟨hnq, hmlu, hce, hsf, hlosses⟩ := hsame
  rwa [State.Bounded, hnq, hmlu, hce, hsf, hlosses]

theorem stopAt_le {limit n : Nat} (h : n ≤ limit) : stopAt limit n ≤ limit := by
  unfold stopAt
  split_ifs <;> omega

theorem countUp_le {n : Nat} (h : n ≤ 65535) : countUp n ≤ 65535 := stopAt_le h

/-- Acts that each keep the bounds. -/
abbrev BoundedActs (acts : List (State → State)) : Prop :=
  ∀ act ∈ acts, ∀ x : State, x.Bounded → (act x).Bounded

theorem BoundedActs.run {acts : List (State → State)} (h : BoundedActs acts) {s : State}
    (hs : s.Bounded) : (runActs acts s).Bounded := runActs_induct h hs

/-! ### What counts -/

section Counts
variable {s : State} (h : s.Bounded)
include h

theorem offerWith_bounded (frame : BitVec 16) (n : Notice) : (offerWith frame n s).Bounded := by
  obtain ⟨⟨hentries, hlost, htotal⟩, hrest⟩ := id h
  unfold offerWith
  split_ifs with hmask hroom
  · refine ⟨⟨?_, hlost, htotal⟩, hrest⟩
    simpa [Config.notifyPlaces] using hroom
  · exact ⟨⟨hentries, stopAt_le hlost, countUp_le htotal⟩, hrest⟩
  · exact h

theorem offer_bounded (n : Notice) : (offer n s).Bounded := offerWith_bounded h _ n

theorem clearCounters_bounded : (clearCounters s).Bounded := by
  obtain ⟨⟨hentries, hlost, -⟩, ⟨-, -, -, -, haddress⟩, ⟨-, -, hsince⟩, ⟨-, hreported, -⟩, -⟩ := h
  have hcleared : ∀ n ∈ List.replicate 16 0, n ≤ 65535 := by decide
  exact ⟨⟨hentries, hlost, Nat.zero_le _⟩, ⟨Nat.zero_le _, Nat.zero_le _, Nat.zero_le _, Nat.zero_le _,
    haddress⟩, ⟨Nat.zero_le _, Nat.zero_le _, hsince⟩, ⟨rfl, hreported, hcleared⟩, Nat.zero_le _⟩

theorem discardCommand_bounded : (discardCommand s).Bounded := by
  obtain ⟨hnq, hmlu, ⟨hdiscarded, hduplicates, hsince⟩, hrest⟩ := h
  exact ⟨hnq, hmlu, ⟨countUp_le hdiscarded, hduplicates, stopAt_le hsince⟩, hrest⟩

theorem countNotForwarded_bounded : (countNotForwarded s).Bounded := by
  obtain ⟨hnq, ⟨hcrc, hframing, hforward, hrest⟩, hothers⟩ := h
  exact ⟨hnq, ⟨hcrc, hframing, countUp_le hforward, hrest⟩, hothers⟩

theorem countFraming_bounded : (countFraming s).Bounded := by
  obtain ⟨hnq, ⟨hcrc, hframing, hrest⟩, hothers⟩ := h
  exact ⟨hnq, ⟨hcrc, countUp_le hframing, hrest⟩, hothers⟩

theorem countLockLoss_bounded : (countLockLoss s).Bounded := by
  obtain ⟨hnq, hmlu, hce, hsf, hlosses⟩ := h
  exact ⟨hnq, hmlu, hce, hsf, countUp_le hlosses⟩

theorem countUnderruns_bounded : (countUnderruns s).Bounded := by
  obtain ⟨hnq, hmlu, hce, ⟨hunderruns, hreported, hcounts⟩, hlosses⟩ := h
  refine ⟨hnq, hmlu, hce, ⟨by simpa [countUnderruns] using hunderruns,
    by simpa [countUnderruns] using hreported, fun n hn => ?_⟩, hlosses⟩
  obtain ⟨i, hi, rfl⟩ := List.mem_mapIdx.1 hn
  split_ifs
  · exact countUp_le (hcounts _ (List.getElem_mem _))
  · exact hcounts _ (List.getElem_mem _)

theorem emitResponse_bounded (r : Response) : (emitResponse r s).Bounded := by
  obtain ⟨hnq, hmlu, ⟨hdiscarded, hduplicates, -⟩, hrest⟩ := h
  exact ⟨hnq, hmlu, ⟨hdiscarded, hduplicates, Nat.zero_le _⟩, hrest⟩

theorem emitNotification_bounded : (emitNotification s).Bounded := by
  obtain ⟨⟨hentries, -, htotal⟩, hrest⟩ := h
  exact ⟨⟨(List.tail_sublist _).length_le.trans hentries, Nat.zero_le _, htotal⟩, hrest⟩

end Counts

/-! ### Execution -/

section Answers
variable {s : State} (h : s.Bounded)
include h

theorem queueResponse_bounded (r : Response) : (queueResponse r s).Bounded := h

theorem cacheResponse_bounded (e : CacheEntry) : (cacheResponse e s).Bounded := h

theorem answer_bounded (q : Queued) (st : Status) (d : List Byte) : (answer q st d s).Bounded :=
  cacheResponse_bounded (queueResponse_bounded (by exact h) _) _

theorem setSlot_bounded (slot : Slot) (wait : Option CancelWait) :
    (s.withCe { s.ce with slot := slot, cancel := wait }).Bounded := h

theorem endExecution_bounded : (endExecution s).Bounded := h

end Answers

theorem checked_bounded {checks : List (Bool × Nat)} {effect : State → State × Result} {s : State}
    (h : s.Bounded) (heffect : (effect s).1.Bounded) : (checked checks effect s).1.Bounded := by
  rcases checked_cases checks effect with ⟨o, -, ho⟩ | ⟨-, heff⟩
  · rw [ho]; exact h
  · rw [heff]; exact heffect

theorem whileOpen_bounded {run : State → State × Result} {s : State} (h : s.Bounded)
    (hrun : (run s).1.Bounded) : (whileOpen run s).1.Bounded := by
  unfold whileOpen
  split_ifs
  · exact hrun
  · exact h

section Execution
variable {s : State} (h : s.Bounded)
include h

theorem Command.run_bounded (c : Command) (p : List Byte) : (c.run p s).1.Bounded := by
  cases c with
  | clearCounters => exact clearCounters_bounded h
  | setRegion | setPalette | setCue => exact whileOpen_bounded h (checked_bounded h h)
  | setNotifyMask | setTiming | readRegion | readPalette | readCue | setFence | readFence
  | readMeasure | setReport => exact checked_bounded h h
  | editOpen => simp only [Command.run, runEditOpen]; split_ifs <;> exact h
  | editClose =>
    simp only [Command.run, runEditClose]
    split_ifs
    · split <;> exact h
    · exact h
  | commit => simp only [Command.run, runCommit]; split_ifs <;> exact h
  | readInfo | readStatus | ovlWrite | ovlFill | ovlCopy | ovlRead => exact h

theorem runSequenced_bounded (code : Byte) (p : List Byte) : (runSequenced code p s).1.Bounded := by
  unfold runSequenced
  split
  · exact h
  · split_ifs
    · exact Command.run_bounded h _ p
    · exact h

theorem runBroadcastCommit_bounded (p : List Byte) : (runBroadcastCommit p s).1.Bounded := by
  unfold runBroadcastCommit
  split_ifs
  · exact h
  · exact offer_bounded h _
  · exact h

theorem beginQueued_bounded (q : Queued) : (beginQueued q s).Bounded := by
  have hsequenced := runSequenced_bounded h q.code q.payload
  have hbroadcast := runBroadcastCommit_bounded h q.payload
  unfold beginQueued
  split_ifs
  · split <;> rename_i hrun <;> rw [hrun] at hsequenced
    · exact answer_bounded hsequenced _ _ _
    · exact hsequenced
  · split <;> rename_i hrun <;> rw [hrun] at hbroadcast <;> exact hbroadcast

theorem beginNext_bounded : (beginNext s).Bounded := by
  unfold beginNext
  split_ifs
  · split
    · exact h
    · exact beginQueued_bounded (by exact h) _
  · exact h

end Execution

theorem settleActs_boundedActs (s : State) : BoundedActs (settleActs s) := fun act hact x hx => by
  rw [List.eq_of_mem_replicate hact]
  exact beginNext_bounded hx

theorem settleEngine_bounded {s : State} (h : s.Bounded) : (settleEngine s).Bounded :=
  (settleActs_boundedActs s).run h

section Engine
variable {s : State} (h : s.Bounded)
include h

theorem completeCommand_bounded (st : Status) (d : List Byte) : (completeCommand st d s).Bounded := by
  unfold completeCommand
  split
  · dsimp only
    split_ifs
    · exact answer_bounded (endExecution_bounded h) _ _ _
    · exact endExecution_bounded h
  · exact h

theorem takeCommitApplied_bounded : (takeCommitApplied s).Bounded := by
  unfold takeCommitApplied
  split
  · exact completeCommand_bounded h _ _
  · exact completeCommand_bounded (by exact h) _ _
  · exact h

/-! ### Store operations -/

theorem advanceOperation_bounded (op : StoreOp) : (advanceOperation op s).Bounded := by
  simp only [advanceOperation]
  split
  · exact h
  · exact settleEngine_bounded (completeCommand_bounded (by exact h) _ _)

theorem grantStore_bounded : (grantStore s).Bounded := h

theorem completeChecks_bounded (op : StoreOp) : (completeChecks op s).Bounded := by
  unfold completeChecks
  split
  · exact settleEngine_bounded (completeCommand_bounded (by exact h) _ _)
  · exact grantStore_bounded (advanceOperation_bounded h _)

theorem completeCancel_bounded (c : CancelWait) (d : List Byte) : (completeCancel c d s).Bounded := by
  have hanswered : ∀ (l : List Queued) (x : State), x.Bounded →
      (l.foldl (fun t q => answer q .cancelled (removedData q) t) x).Bounded := by
    intro l
    induction l with
    | nil => exact fun _ hx => hx
    | cons q l ih => exact fun x hx => ih _ (answer_bounded hx _ _ _)
  exact settleEngine_bounded (setSlot_bounded (queueResponse_bounded
    (hanswered _ _ (completeCommand_bounded h _ _)) _) _ _)

theorem endOperation_bounded (op : StoreOp) : (endOperation op s).Bounded := by
  simp only [endOperation]
  split
  · exact completeCancel_bounded (by exact h) _ _
  · exact settleEngine_bounded (by exact h)

theorem completeWrite_bounded (op : StoreOp) (r : BurstRequest) : (completeWrite op r s).Bounded := by
  simp only [completeWrite]
  split_ifs
  · exact endOperation_bounded (by exact h) _
  · exact advanceOperation_bounded (by exact h) _

theorem completeRead_bounded (op : StoreOp) (r : BurstRequest) : (completeRead op r s).Bounded := by
  simp only [completeRead]
  split_ifs
  · exact endOperation_bounded h _
  · exact h
  · exact advanceOperation_bounded h _

theorem completeEngineBurst_bounded (g : Grant) : (completeEngineBurst g s).Bounded := by
  refine grantStore_bounded ?_
  split
  · split_ifs
    · exact completeWrite_bounded (by exact h) _ _
    · exact completeRead_bounded (by exact h) _ _
  · exact h

/-! ### Intake -/

theorem takeNew_bounded (q : Queued) : (takeNew q s).Bounded := by
  unfold takeNew
  split_ifs
  · exact h
  · exact discardCommand_bounded h

theorem takeStale_bounded (q : Queued) : (takeStale q s).Bounded := by
  unfold takeStale
  split_ifs
  · exact h
  · exact discardCommand_bounded h

theorem takeRecent_bounded (q : Queued) : (takeRecent q s).Bounded := by
  unfold takeRecent
  split
  · split_ifs
    · exact h
    · exact discardCommand_bounded h
  · split_ifs
    · obtain ⟨hnq, hmlu, ⟨hdiscarded, hduplicates, hsince⟩, hrest⟩ := h
      exact ⟨hnq, hmlu, ⟨hdiscarded, countUp_le hduplicates, hsince⟩, hrest⟩
    · exact takeStale_bounded h q

theorem intakeSequenced_bounded (q : Queued) : (intakeSequenced q s).Bounded := by
  simp only [intakeSequenced]
  split
  · exact takeNew_bounded h q
  · split_ifs
    · exact takeNew_bounded h q
    · exact takeRecent_bounded h q
    · exact takeStale_bounded h q

theorem intakeBroadcastCommit_bounded (p : List Byte) : (intakeBroadcastCommit p s).Bounded := by
  unfold intakeBroadcastCommit
  split_ifs
  · exact h
  · exact discardCommand_bounded h

theorem cutOperation_bounded : (cutOperation s).1.Bounded := h.same (by simp [SameCounters])

theorem performCancel_bounded (seq code : Byte) : (performCancel seq code s).Bounded := by
  have hcut := cutOperation_bounded (s := s.withCe { s.ce with queue := [] }) h
  simp only [performCancel]
  split
  · exact completeCancel_bounded (by exact h) _ _
  · split_ifs
    · exact hcut
    · exact completeCancel_bounded hcut _ _
  · exact completeCancel_bounded (by exact h) _ _
  · exact completeCancel_bounded (by exact h) _ _

/-- NODE_RESET clears every counter and leaves the address (R178, R179). -/
theorem performReset_bounded : (performReset s).Bounded := by
  obtain ⟨-, ⟨-, -, -, -, haddress⟩, -⟩ := h
  have hlosses : (performReset s).rtu.lockLosses = 0 := by simp [performReset, resetBlocks]
  have hcounts : (performReset s).mlu = { s.mlu with
      crcErrors := 0, framingErrors := 0, notForwarded := 0, misaddressed := 0 } := by
    simp [performReset, resetBlocks]
  have hce : (performReset s).ce = (resetCe s).ce := by simp [performReset]
  have hsf : (performReset s).sf.underruns = List.replicate 16 0 ∧
      (performReset s).sf.reported = List.replicate 16 false := by simp [performReset, resetBlocks]
  have hnq : (performReset s).nq = .initial := rfl
  refine ⟨?_, ?_, ?_, ?_, hlosses ▸ Nat.zero_le _⟩
  · rw [hnq, NotificationQueue.Bounded]
    decide
  · rw [hcounts]
    exact ⟨Nat.zero_le _, Nat.zero_le _, Nat.zero_le _, Nat.zero_le _, haddress⟩
  · rw [hce]
    exact ⟨Nat.zero_le _, Nat.zero_le _, Nat.zero_le _⟩
  · rw [SpanFetcher.Bounded, hsf.1, hsf.2]
    decide

theorem fillSlot_bounded (seq code : Byte) (st : Status) : (fillSlot seq code st s).Bounded := h

theorem intakeImmediate_bounded {effect : State → State}
    (heffect : ∀ x : State, x.Bounded → (effect x).Bounded) (seq code : Byte) (p : List Byte) :
    (intakeImmediate effect seq code p s).Bounded := by
  simp only [intakeImmediate]
  split_ifs
  · exact heffect (s.withCe _) h
  · exact h
  · exact discardCommand_bounded h

theorem intakeAddressed_bounded (seq code : Byte) (p : List Byte) :
    (intakeAddressed seq code p s).Bounded := by
  unfold intakeAddressed
  split_ifs
  · exact intakeImmediate_bounded h (fun x hx => performCancel_bounded hx _ _) ..
  · exact intakeImmediate_bounded h (effect := fun x => fillSlot seq nodeResetCode .ok (performReset x))
      (fun x hx => fillSlot_bounded (performReset_bounded hx) _ _ _) ..
  · exact settleEngine_bounded (intakeSequenced_bounded h _)

theorem intakeBroadcast_bounded (code : Byte) (p : List Byte) : (intakeBroadcast code p s).Bounded := by
  unfold intakeBroadcast intakeBroadcastReset
  split_ifs
  · exact performReset_bounded h
  · exact discardCommand_bounded h
  · exact settleEngine_bounded (intakeBroadcastCommit_bounded h _)

/-! ### Packets and pixel words -/

theorem forwardPacket_bounded (p : Packet) : (forwardPacket p s).Bounded := by
  unfold forwardPacket
  split
  · exact h
  · exact countNotForwarded_bounded h

theorem takeBroadcast_bounded (p : Packet) : (takeBroadcast p s).Bounded := by
  simp only [takeBroadcast]
  split_ifs
  · exact intakeBroadcast_bounded h _ _
  · obtain ⟨hnq, ⟨hcrc, hframing, hforward, hmisaddressed, haddress⟩, hrest⟩ := h
    exact ⟨hnq, ⟨hcrc, hframing, hforward, countUp_le hmisaddressed, haddress⟩, hrest⟩

/-- An address up to 30 may be set (R146). -/
theorem setAddress_bounded {n : Nat} (hn : n ≤ 30) : (s.withMlu { s.mlu with address := n }).Bounded := by
  obtain ⟨hnq, ⟨hcrc, hframing, hforward, hmisaddressed, -⟩, hrest⟩ := h
  exact ⟨hnq, ⟨hcrc, hframing, hforward, hmisaddressed, hn⟩, hrest⟩

/-- An ENUM sets an address of at most 30 (R146, R147). -/
theorem takeEnum_bounded (p : Packet) : (takeEnum p s).Bounded := by
  simp only [takeEnum]
  split
  · exact forwardPacket_bounded h p
  · split_ifs
    · rename_i hop _ _ hsmall
      exact forwardPacket_bounded (by exact setAddress_bounded h (n := hop.toNat + 1) (by omega)) _
    · exact forwardPacket_bounded (by exact setAddress_bounded h (n := 0) (Nat.zero_le _)) _

theorem takePacket_bounded (p : Packet) : (takePacket p s).Bounded := by
  have hcrc : (s.withMlu { s.mlu with crcErrors := countUp s.mlu.crcErrors }).Bounded := by
    obtain ⟨hnq, ⟨hcrc, hmlu⟩, hrest⟩ := h
    exact ⟨hnq, ⟨countUp_le hcrc, hmlu⟩, hrest⟩
  simp only [takePacket]
  split_ifs
  · exact forwardPacket_bounded hcrc p
  · exact intakeAddressed_bounded h _ _ _
  · simp only [eitherOrder]
    split_ifs
    · exact takeBroadcast_bounded (forwardPacket_bounded (by exact h) p) p
    · exact forwardPacket_bounded (takeBroadcast_bounded (by exact h) p) p
  · exact takeBroadcast_bounded (forwardPacket_bounded h p) p
  · exact takeEnum_bounded h p
  · exact forwardPacket_bounded h p

theorem feedOctet_bounded (o : Byte) : (feedOctet s o).Bounded := by
  simp only [feedOctet]
  split
  · exact h
  · split_ifs
    · exact h
    · exact h
    · exact h
    · exact countFraming_bounded h
    · exact countFraming_bounded h
    · exact takePacket_bounded (by exact h) _
    · exact h

end Engine

theorem feedOctets_bounded (l : List Byte) {s : State} (h : s.Bounded) :
    (l.foldl feedOctet s).Bounded := by
  induction l generalizing s with
  | nil => exact h
  | cons o l ih => exact ih (feedOctet_bounded h o)

theorem takePixelWord_bounded (bits : BitVec 31) {s : State} (h : s.Bounded) :
    (takePixelWord bits s).Bounded := by
  simp only [takePixelWord]
  split
  · exact h
  · split_ifs
    · exact feedOctets_bounded _ (by exact h)
    · exact h
    · exact h

end Sys2Proof.Machine
end

section
/-! Every step keeps the counters, the notification queue and the node address within their bounds (R146, R165,
R182, R183, R190). -/

namespace Sys2Proof.Machine

/-! ### The events of a line start -/

section LineStart
variable {s : State} (h : s.Bounded)
include h

theorem expireEdit_bounded : (expireEdit s).Bounded := offer_bounded (s := discardEdit s) h _

theorem countEdit_bounded : (countEdit s).Bounded := by
  unfold countEdit
  split_ifs
  · exact expireEdit_bounded h
  · exact h

/-- A fetch that starts, or one that ends, leaves the counts of the SF. -/
theorem startFetch_bounded (t : Nat) : (startFetch t s).Bounded := h

theorem setReady_bounded : (setReady s).Bounded :=
  grantStore_bounded (startFetch_bounded (by exact h) 0)

theorem stopFetch_bounded : (stopFetch s).Bounded := by
  have hfetch : (s.withSf { s.sf with fetch := none }).Bounded := h
  exact hfetch.same (by simp [SameCounters, stopFetch])

theorem swapBuffers_bounded : (swapBuffers s).Bounded := h

theorem sendPixels_bounded (kind : LineKind) (frameStart : Bool) (pixels : List Pixel) :
    (sendPixels kind frameStart pixels s).Bounded := h

theorem commitNow_bounded : (commitNow s).Bounded :=
  takeCommitApplied_bounded (setReady_bounded (by exact h))

theorem latchLevel_bounded (i : Nat) (m : Measurement) : (latchLevel i m s).Bounded := by
  simp only [latchLevel]
  split
  · exact h
  · split_ifs
    · exact offer_bounded (by exact h) _
    · exact h

theorem reportStillness_bounded (i : Nat) : (reportStillness i s).Bounded := by
  simp only [reportStillness]
  split_ifs
  · exact offer_bounded (by exact h) _
  · exact offer_bounded (by exact h) _
  · exact h

theorem latchStillness_bounded (i : Nat) (q : Option Measurement) (m : Measurement) :
    (latchStillness i q m s).Bounded := by
  simp only [latchStillness]
  split_ifs
  · exact h
  · exact reportStillness_bounded (by exact h) _
  · exact reportStillness_bounded (by exact h) _

theorem latchReport_bounded (i : Nat) (m : Measurement) : (latchReport i m s).Bounded := by
  simp only [latchReport]
  split_ifs
  · exact h
  · exact offerWith_bounded (by exact h) _ _
  · exact h

theorem spanFrameStart_bounded : (spanFrameStart s).Bounded := by
  obtain ⟨hnq, hmlu, hce, ⟨hunderruns, -, hcounts⟩, hlosses⟩ := stopFetch_bounded h
  exact ⟨hnq, hmlu, hce, ⟨hunderruns, List.length_replicate, hcounts⟩, hlosses⟩

/-- A line settled by the SF has its underruns counted (R91). -/
theorem spanLineStart_bounded (t : Nat) : (spanLineStart t s).1.Bounded := by
  have hswapped : ∀ f : SpanFetcher, f.underruns = s.sf.underruns → f.reported = s.sf.reported →
      (countUnderruns (swapBuffers (stopFetch (s.withSf f)))).Bounded := fun f hunderruns hreported => by
    obtain ⟨hnq, hmlu, hce, hsf, hlosses⟩ := h
    have hset : (s.withSf f).Bounded := by
      refine ⟨hnq, hmlu, hce, ?_, hlosses⟩
      rwa [SpanFetcher.Bounded, State.withSf_sf, hunderruns, hreported]
    exact countUnderruns_bounded (swapBuffers_bounded (stopFetch_bounded hset))
  simp only [spanLineStart]
  split_ifs
  · exact h
  · exact grantStore_bounded (startFetch_bounded (hswapped _ (by rfl) (by rfl)) _)
  · exact grantStore_bounded (hswapped _ (by rfl) (by rfl))
  · exact grantStore_bounded (hswapped _ (by rfl) (by rfl))

end LineStart

theorem latchActs_boundedActs (s : State) (i : Nat) : BoundedActs (latchActs s i) := by
  unfold latchActs
  split_ifs
  · exact List.forall_mem_cons.2 ⟨fun x hx => latchLevel_bounded (by exact hx) i _,
      List.forall_mem_cons.2 ⟨fun x hx => latchStillness_bounded hx i _ _,
        List.forall_mem_singleton.2 fun x hx => latchReport_bounded hx i _⟩⟩
  · exact List.forall_mem_nil _

theorem dueFrameEndActs_boundedActs (s : State) : BoundedActs (dueFrameEndActs s) := by
  unfold dueFrameEndActs frameEndActs
  split_ifs
  · refine List.forall_mem_cons.2 ⟨fun _ hx => hx, List.forall_mem_cons.2 ⟨fun _ hx => hx,
      fun act hact => ?_⟩⟩
    obtain ⟨i, -, hact⟩ := List.mem_flatMap.1 hact
    exact latchActs_boundedActs s i act hact
  · exact List.forall_mem_cons.2 ⟨fun _ hx => hx, List.forall_mem_singleton.2 fun _ hx => hx⟩
  · exact List.forall_mem_singleton.2 fun _ hx => hx
  · exact List.forall_mem_nil _

theorem activationActs_boundedActs (s : State) : BoundedActs (activationActs s) := by
  unfold activationActs
  split_ifs
  · exact List.forall_mem_singleton.2 fun x hx => setReady_bounded (countEdit_bounded hx)
  · exact List.forall_mem_cons.2 ⟨fun x hx => commitNow_bounded hx, settleActs_boundedActs s⟩
  · exact List.forall_mem_singleton.2 fun x hx => setReady_bounded hx

theorem dueActivationActs_boundedActs (s : State) : BoundedActs (dueActivationActs s) := by
  unfold dueActivationActs
  split_ifs
  · exact List.forall_mem_nil _
  · exact List.forall_mem_cons.2 ⟨fun _ hx => hx, activationActs_boundedActs s⟩

theorem endParseActs_boundedActs (s : State) : BoundedActs (endParseActs s) := by
  unfold endParseActs
  split
  · split_ifs
    · exact List.forall_mem_singleton.2 fun x hx => countFraming_bounded hx
    · exact List.forall_mem_nil _
  · exact List.forall_mem_nil _

theorem dropActs_boundedActs (l : Option InputLine) : BoundedActs (dropActs l) := by
  unfold dropActs
  split
  · intro act hact x hx
    rw [List.eq_of_mem_replicate hact]
    exact countNotForwarded_bounded hx
  · exact List.forall_mem_nil _

theorem lineEventActs_boundedActs (activation : Bool) {others : List (State → State)} (s : State)
    (h : BoundedActs others) : BoundedActs (lineEventActs activation others s).1 := by
  intro act hact
  simp only [lineEventActs, mem_interleaved, List.mem_append] at hact
  obtain (hact | hact) | hact := hact
  · exact dueFrameEndActs_boundedActs s act hact
  · split_ifs at hact
    · exact dueActivationActs_boundedActs s act hact
    · exact absurd hact List.not_mem_nil
  · exact h act hact

/-! ### Output lines -/

theorem insertNext_bounded {x : State × Assembly} (h : x.1.Bounded) : (insertNext x).1.Bounded := by
  obtain ⟨s, a⟩ := x
  simp only [insertNext]
  split
  · rename_i c _
    split_ifs
    · cases c with
      | response r => exact emitResponse_bounded h r
      | notification e => exact emitNotification_bounded h
    · exact h
  · exact h

theorem assembleAmong_bounded {events : List (State → State)} (words : Nat) (forward : List Packet)
    {s : State} (hs : s.Bounded) (h : BoundedActs events) :
    (assembleAmong events words forward s).1.Bounded := by
  simp only [assembleAmong]
  refine runActs_induct (P := fun x : State × Assembly => x.1.Bounded) (fun act hact x hx => ?_)
    (hs.same (by simp [SameCounters]))
  rcases mem_interleaved.1 hact with hact | hact
  · obtain ⟨e, he, rfl⟩ := List.mem_map.1 hact
    exact h e he x.1 hx
  · obtain rfl | hact := List.mem_cons.1 hact
    · exact hx
    · rw [List.eq_of_mem_replicate hact]
      exact insertNext_bounded hx

theorem offerAll_bounded (ns : List Notice) {s : State} (h : s.Bounded) : (offerAll ns s).Bounded := by
  induction ns generalizing s with
  | nil => exact h
  | cons n ns ih => exact ih (offer_bounded h n)

theorem composingState_bounded (starts : List Pixel) {s : State} (h : s.Bounded) :
    (composingState starts s).Bounded := by
  have hspan := spanLineStart_bounded h s.out.activeCount
  have hoffers : ∀ offers : List Notice × State, SameCounters (spanLineStart s.out.activeCount s).1 offers.2 →
      (offerAll offers.1 offers.2).Bounded := fun offers hsame => offerAll_bounded _ (hspan.same hsame)
  exact (hoffers (interleaved (spanLineStart s.out.activeCount s).2
    (cueNotices (spanLineStart s.out.activeCount s).1.ct.activeSet s.out.activeCount)
    (spanLineStart s.out.activeCount s).1) (by simp [SameCounters])).same
    (by simp [SameCounters, composingState])

theorem activeLine_bounded (frameStart : Bool) (starts : List Pixel) {s : State} (h : s.Bounded) :
    (activeLine frameStart starts s).Bounded := by
  rw [activeLine_eq]
  exact sendPixels_bounded (composingState_bounded starts h) _ _ _

section Lines
variable {s : State} (h : s.Bounded)
include h

theorem outputLineStart_bounded (kind : LineKind) (frameStart : Bool) (starts : List Pixel)
    (forward : List Packet) (activation : Bool) {others : List (State → State)}
    (hothers : BoundedActs others) :
    (outputLineStart kind frameStart starts forward activation others s).Bounded := by
  have hevents := lineEventActs_boundedActs activation s hothers
  have hdrawn : (lineEventActs activation others s).2.Bounded := h.same (by simp [SameCounters])
  cases kind with
  | active => exact activeLine_bounded _ _ (hothers.run h)
  | mgmt =>
    rw [outputLineStart, mgmtLine_eq]
    exact sendPixels_bounded (assembleAmong_bounded _ _ hdrawn hevents) _ _ _
  | blank => exact sendPixels_bounded (hevents.run hdrawn) _ _ _

theorem outputFrameStart_bounded (inputTimed : Bool) (g : Geometry) (period startedAt : Nat) :
    (outputFrameStart inputTimed g period startedAt s).Bounded := by
  have hdiscard : ∀ x : State, x.Bounded → (discardMeasurement x).Bounded :=
    fun x hx => hx.same (by simp [SameCounters])
  simp only [outputFrameStart]
  split_ifs
  · exact hdiscard _ (spanFrameStart_bounded (by exact (dueFrameEndActs_boundedActs s).run h))
  · exact hdiscard _ (spanFrameStart_bounded (by exact h))

theorem internalLine_bounded (i : Nat) {others : List (State → State)} (hothers : BoundedActs others) :
    (internalLine i others s).Bounded := outputLineStart_bounded (by exact h) _ _ _ _ _ hothers

theorem startInternalFrame_bounded (startedAt : Nat) {others : List (State → State)}
    (hothers : BoundedActs others) : (startInternalFrame startedAt others s).Bounded := by
  simp only [startInternalFrame]
  split_ifs
  · exact internalLine_bounded (outputFrameStart_bounded (by exact h) _ _ _ _) 0 hothers
  · exact internalLine_bounded (outputFrameStart_bounded h _ _ _ _) 0 hothers

theorem changeLock_bounded (new : LockState) : (changeLock new s).Bounded :=
  h.same (by simp [SameCounters, changeLock])

theorem nextInternalFrame_bounded : (nextInternalFrame s).Bounded := by
  have hlimit : BoundedActs [offerLock .holdover .freeRun .holdoverLimit] :=
    List.forall_mem_singleton.2 fun x hx => offer_bounded hx _
  simp only [nextInternalFrame]
  generalize (if s.out.running = true then s.out.startedAt + s.out.period * 1000 else s.now) = begins
  split_ifs
  · exact startInternalFrame_bounded (changeLock_bounded (by exact h) _) _ hlimit
  · exact startInternalFrame_bounded (by exact h) _ (List.forall_mem_nil _)
  · exact startInternalFrame_bounded (by exact h) _ (List.forall_mem_nil _)

theorem paceInternal_bounded : (paceInternal s).Bounded := by
  simp only [paceInternal]
  split_ifs
  · exact h
  · exact nextInternalFrame_bounded h
  · exact internalLine_bounded (by exact h) _ (List.forall_mem_nil _)

/-! ### Input lines -/

theorem departLocked_bounded (new : LockState) (cause : LockCause) {errors : List (State → State)}
    (herrors : BoundedActs errors) : (departLocked new cause errors s).Bounded := by
  have hchanged := changeLock_bounded h new
  simp only [departLocked]
  refine startInternalFrame_bounded (hchanged.same (by simp [SameCounters])) _ fun act hact x hx => ?_
  simp only [mem_interleaved, List.mem_append, List.mem_cons, List.not_mem_nil, or_false] at hact
  obtain ((hact | hact) | hact) | rfl | rfl := hact
  · exact herrors act hact x hx
  · exact dropActs_boundedActs _ act hact x hx
  · exact dropActs_boundedActs _ act hact x hx
  · exact countLockLoss_bounded hx
  · exact offer_bounded hx _

theorem expireFlywheel_bounded (due : Nat) : (expireFlywheel due s).Bounded := by
  simp only [expireFlywheel]
  split_ifs
  · exact departLocked_bounded (by exact h) _ _ (List.forall_mem_nil _)
  · exact departLocked_bounded (by exact h) _ _ (List.forall_mem_nil _)

theorem becomeCandidate_bounded (f : Option InputFrame) : (becomeCandidate f s).Bounded := h

theorem enterLocked_bounded (f : InputFrame) : (enterLocked f s).Bounded :=
  offer_bounded (by exact changeLock_bounded h _) _

theorem expireAcquire_bounded (due : Nat) : (expireAcquire due s).Bounded :=
  offer_bounded (changeLock_bounded (by exact h) _) _

theorem takeFrameStart_bounded (ended : Option InputFrame) {errors : List (State → State)}
    (herrors : BoundedActs errors) : (takeFrameStart ended errors s).Bounded := by
  have hdepart : ∀ f, (becomeCandidate f (departLocked .acquiring .mismatch errors s)).Bounded :=
    fun f => becomeCandidate_bounded (departLocked_bounded h _ _ herrors) f
  have hacquire : ∀ previous cause f,
      (offerLock previous .acquiring cause (becomeCandidate f (changeLock .acquiring s))).Bounded :=
    fun _ _ f => offer_bounded (becomeCandidate_bounded (changeLock_bounded h _) f) _
  unfold takeFrameStart
  split
  · exact hacquire _ _ _
  · split
    · split_ifs
      · exact enterLocked_bounded h _
      · exact becomeCandidate_bounded h _
    · exact becomeCandidate_bounded h _
  · split
    · split_ifs
      · exact h
      · exact hdepart _
    · exact hdepart _
  · split_ifs
    · split
      · split_ifs
        · exact enterLocked_bounded h _
        · exact hacquire _ _ _
      · exact h
    · exact h

theorem carryLine_bounded (first : Bool) (a : InputLine) (b : Option InputLine)
    {errors : List (State → State)} (herrors : BoundedActs errors) :
    (carryLine first a b errors s).Bounded := by
  simp only [carryLine]
  refine outputLineStart_bounded ?_ _ _ _ _ _ herrors
  split_ifs
  · exact outputFrameStart_bounded h _ _ _ _
  · exact h

theorem followInput_bounded (a b : Option InputLine) (index : Nat) {errors : List (State → State)}
    (herrors : BoundedActs errors) : (followInput a b index errors s).Bounded := by
  unfold followInput
  split
  · split_ifs
    · exact carryLine_bounded h _ _ _ herrors
    · exact carryLine_bounded (by exact h) _ _ _ herrors
    · exact herrors.run h
  · exact herrors.run h

theorem beginParse_bounded (kind : LineKind) : (beginParse kind s).Bounded := by
  unfold beginParse
  split_ifs <;> exact h

theorem beginLine_bounded (l : InputLine) : (beginLine l s).Bounded := beginParse_bounded (by exact h) _

theorem lineEnded_bounded (clock : Nat) : (lineEnded clock s).Bounded := h

theorem takeLineStart_bounded (bits : BitVec 31) (clock : Nat) : (takeLineStart bits clock s).Bounded := by
  have hended := endParseActs_boundedActs s
  have hbegin := lineEnded_bounded h clock
  cases hbits : bits.getLsbD 4 with
  | false =>
    rw [takeLineStart_within clock s hbits]
    exact beginLine_bounded (followInput_bounded hbegin _ _ _ hended) _
  | true =>
    rw [takeLineStart_frame clock s hbits rfl]
    refine beginLine_bounded (followInput_bounded ?_ _ _ _ ?_) _
    · exact takeFrameStart_bounded hbegin _ hended
    · split_ifs
      · exact List.forall_mem_nil _
      · exact hended

/-! ### Span bursts -/

theorem takeSpanOctets_bounded (octets : List Byte) : (takeSpanOctets octets s).Bounded := by
  simp only [takeSpanOctets]
  split
  · split_ifs <;> exact h
  · exact h

theorem requestSpan_bounded : (requestSpan s).Bounded := h

theorem completeSpanBurst_bounded (g : Grant) : (completeSpanBurst g s).Bounded := by
  simp only [completeSpanBurst]
  split_ifs
  · exact grantStore_bounded (by exact h)
  · exact grantStore_bounded (requestSpan_bounded (takeSpanOctets_bounded (by exact h) _))

/-! ### Rows -/

theorem startFirstFrame_bounded : (startFirstFrame s).Bounded :=
  startInternalFrame_bounded h _ (List.forall_mem_nil _)

theorem whileRunning_bounded {effect : State → State} {t : State} (heffect : (effect s).Bounded)
    (hnext : whileRunning effect s = .next t) : t.Bounded := by
  rcases whileRunning_next hnext with rfl | rfl <;> assumption

theorem handOver_bounded {seq code : Byte} {p : List Byte} {t : State}
    (hnext : handOver seq code p s = .next t) : t.Bounded := by
  unfold handOver at hnext
  split_ifs at hnext <;> cases hnext
  · exact intakeAddressed_bounded h _ _ _
  · exact h

end Lines

/-- After either reset every count is 0 (R9, R158, R181, R189). -/
theorem reset_bounded {s : State} (hnq : s.nq = .initial) (hmlu : s.mlu = .initial) (hce : s.ce = .initial)
    (hsf : s.sf = .initial) (hrtu : s.rtu = .initial) : s.Bounded := by
  rw [State.Bounded, hnq, hmlu, hce, hsf, hrtu, NotificationQueue.Bounded, ManagementUnit.Bounded,
    CommandEngine.Bounded, SpanFetcher.Bounded]
  decide

/-- Every row keeps the bounds. -/
theorem exec_bounded {c : Instr} {s t : State} (h : s.Bounded) (hnext : exec c s = .next t) :
    t.Bounded := by
  cases c with
  | powerOn => cases hnext; exact startFirstFrame_bounded (reset_bounded rfl rfl rfl rfl rfl)
  | pinReset => cases hnext; exact reset_bounded rfl rfl rfl rfl rfl
  | resetRelease =>
    simp only [exec, execResetRelease] at hnext
    split_ifs at hnext <;> cases hnext
    · exact startFirstFrame_bounded (by exact h)
    · exact h
  | inputLineStart bits clock => exact whileRunning_bounded h (takeLineStart_bounded h bits clock) hnext
  | inputPixelWord bits => exact whileRunning_bounded h (takePixelWord_bounded bits h) hnext
  | acquireTimerExpiry =>
    simp only [exec, execAcquireTimerExpiry] at hnext
    split at hnext
    · exact whileRunning_bounded h (expireAcquire_bounded h _) hnext
    · cases hnext; exact h
  | flywheelExpiry =>
    simp only [exec, execFlywheelExpiry] at hnext
    split at hnext
    · exact whileRunning_bounded h (expireFlywheel_bounded h _) hnext
    · cases hnext; exact h
  | internalLineStart => exact whileRunning_bounded h (paceInternal_bounded h) hnext
  | holdoverLimit =>
    simp only [exec, execHoldoverLimit] at hnext
    split_ifs at hnext
    · exact whileRunning_bounded h (nextInternalFrame_bounded h) hnext
    · cases hnext; exact h
  | editExpiry =>
    simp only [exec, execEditExpiry] at hnext
    split_ifs at hnext
    · exact whileRunning_bounded h (expireEdit_bounded h) hnext
    · cases hnext; exact h
  | sfBurstComplete =>
    simp only [exec, execSfBurstComplete] at hnext
    split at hnext
    · split_ifs at hnext; cases hnext
      exact completeSpanBurst_bounded h _
    · cases hnext; exact h
  | ceBurstComplete =>
    simp only [exec, execCeBurstComplete] at hnext
    split at hnext
    · split_ifs at hnext; cases hnext
      exact completeEngineBurst_bounded h _
    · cases hnext; exact h
  | storeChecksComplete =>
    simp only [exec, execStoreChecksComplete] at hnext
    split at hnext
    · split_ifs at hnext <;> cases hnext
      · exact h
      · exact completeChecks_bounded h _
    · cases hnext; exact h
  | reportCountdown region =>
    simp only [exec, execReportCountdown] at hnext
    split at hnext
    · split_ifs at hnext
      · exact whileRunning_bounded h (latchReport_bounded h _ _) hnext
      · cases hnext; exact h
    · cases hnext; exact h
  | commandBegin => exact whileRunning_bounded h (settleEngine_bounded h) hnext
  | broadcastCommit p =>
    simp only [exec, execBroadcastCommit] at hnext
    split_ifs at hnext <;> cases hnext
    · exact intakeBroadcast_bounded h _ p
    · exact h
  | nodeReset broadcast seq p =>
    simp only [exec, execNodeReset] at hnext
    split_ifs at hnext
    · cases hnext; exact intakeBroadcast_bounded h _ p
    · cases hnext; exact h
    · exact handOver_bounded h hnext
  | storeClearingDone => cases hnext; exact h
  | unknownCode | readInfo | readStatus | clearCounters | setNotifyMask | setTiming | editOpen
  | editCloseDiscard | editCloseKeep | editCloseCommit | sequencedCommit | setRegion | setPalette
  | setCue | readRegion | readPalette | readCue | ovlWrite | ovlFill | ovlCopy | ovlRead | setFence
  | readFence | readMeasure | setReport | cancel => exact handOver_bounded h hnext

/-- Settles O9: a step runs one row, and every row keeps the bounds. -/
theorem stepKeepsCounterBounds : Obligations.StepKeepsCounterBounds := by
  unfold Obligations.StepKeepsCounterBounds
  intro s t hs h
  rw [counterLaw_iff] at hs ⊢
  unfold step at h
  split at h
  · cases h; exact hs
  · exact exec_bounded (by exact hs) h

end Sys2Proof.Machine
end

section
/-! Intake by sequence distance, and the beginning of queued commands, one after another (R161 to R165, R169 to
R174). -/

namespace Sys2Proof.Machine

/-! ### Places and slots -/

theorem placeFree_iff (c : CommandEngine) : c.placeFree = true ↔ c.queue.length < 8 :=
  decide_eq_true_iff

theorem slotFree_iff (c : CommandEngine) :
    c.slotFree = true ↔ c.sequencedResponses + c.reservations < 8 :=
  decide_eq_true_iff

/-- A new command waits if it finds a place and a slot (R161, R162). -/
theorem takeNew_eq (q : Queued) (s : State) : takeNew q s =
    if s.ce.queue.length < 8 ∧ s.ce.sequencedResponses + s.ce.reservations < 8 then s.waiting q
    else discardCommand s := by
  unfold takeNew
  simp only [Bool.and_eq_true, placeFree_iff, slotFree_iff]
  rfl

/-- What is answered at intake, if it finds a slot: a replay or a STALE (R163, R164, R174). -/
def answerAtIntake (r : Response) (s : State) : State :=
  if s.ce.sequencedResponses + s.ce.reservations < 8 then queueResponse r s else discardCommand s

theorem takeStale_eq {q : Queued} {s : State} {a : Byte} (h : s.ce.lastSeq = some a) :
    takeStale q s = answerAtIntake ⟨q.seq, q.code, .stale, false, [a], false, 0⟩ s := by
  simp only [takeStale, answerAtIntake, slotFree_iff, h, Option.getD_some]

theorem takeRecent_cached {q : Queued} {s : State} {e : CacheEntry} (h : s.ce.cached q.seq = some e) :
    takeRecent q s = answerAtIntake ⟨e.seq, e.code, e.status, true, e.data, false, 0⟩ s := by
  simp only [takeRecent, answerAtIntake, slotFree_iff, h]

theorem takeRecent_inFlight {q : Queued} {s : State} (h : s.ce.cached q.seq = none)
    (hflight : s.ce.inFlight q.seq = true) : takeRecent q s =
      s.withCe { s.ce with duplicates := countUp s.ce.duplicates } := by
  simp only [takeRecent, h, hflight, if_true]

theorem takeRecent_unknown {q : Queued} {s : State} (h : s.ce.cached q.seq = none)
    (hflight : s.ce.inFlight q.seq = false) : takeRecent q s = takeStale q s := by
  simp only [takeRecent, h, hflight, Bool.false_eq_true, if_false]

theorem cached_eq_none {c : CommandEngine} {seq : Byte} (h : ∀ e ∈ c.cache, e.seq ≠ seq) :
    c.cached seq = none := by
  simpa [CommandEngine.cached] using h

/-- A sequence is in flight in the queue or in execution (R163). -/
theorem inFlight_iff (c : CommandEngine) (seq : Byte) : c.inFlight seq = true ↔
    (∃ w ∈ c.queue, w.sequenced = true ∧ w.seq = seq) ∨
      ∃ e ∈ c.exec, e.command.sequenced = true ∧ e.command.seq = seq := by
  cases hexec : c.exec <;> simp [CommandEngine.inFlight, hexec]

/-! ### The window of sequences (R162) -/

section Window
variable {q : Queued} {s : State} {a : Byte} (h : s.ce.lastSeq = some a)
include h

theorem intakeSequenced_ahead (hlow : 1 ≤ (q.seq - a).toNat) (hhigh : (q.seq - a).toNat ≤ 16) :
    intakeSequenced q s = takeNew q s :=
  intakeSequenced_new (by rw [h]; exact decide_eq_true ⟨hlow, hhigh⟩)

theorem intakeSequenced_recent (hd : (q.seq - a).toNat = 0 ∨ 241 ≤ (q.seq - a).toNat) :
    intakeSequenced q s = takeRecent q s := by
  simp only [intakeSequenced, h]
  rw [if_neg (by omega), if_pos hd]

theorem intakeSequenced_far (hlow : 17 ≤ (q.seq - a).toNat) (hhigh : (q.seq - a).toNat ≤ 240) :
    intakeSequenced q s = takeStale q s := by
  simp only [intakeSequenced, h]
  rw [if_neg (by omega), if_neg (by omega)]

end Window

/-- Settles O38: by the distance, then by where the sequence of a recent command is found. -/
theorem intakeFollowsWindow : Obligations.IntakeFollowsWindow := by
  unfold Obligations.IntakeFollowsWindow
  refine ⟨fun s q hlast _ => ?absent, fun s q a d hlast hd _ => ?present⟩
  case absent => rw [intakeSequenced_new (by simp [newSequence, hlast]), takeNew_eq]
  case present =>
    subst hd
    refine ⟨fun hlow hhigh => ?ahead, fun hlow hhigh => ?far, fun hd e he => ?cached,
      fun hd hcache hflight => ?inFlight, fun hd hcache hqueue hexec => ?unknown⟩
    case ahead => rw [intakeSequenced_ahead hlast hlow hhigh, takeNew_eq]
    case far => rw [intakeSequenced_far hlast hlow hhigh, takeStale_eq hlast]; rfl
    case cached => rw [intakeSequenced_recent hlast hd, takeRecent_cached (by exact he)]; rfl
    case inFlight =>
      rw [intakeSequenced_recent hlast hd,
        takeRecent_inFlight (cached_eq_none hcache) ((inFlight_iff _ _).2 hflight)]
      rfl
    case unknown =>
      have hnone : s.ce.inFlight q.seq = false := by
        rw [Bool.eq_false_iff, ne_eq, inFlight_iff]
        rintro (⟨w, hw, hseq, heq⟩ | ⟨e, he, hseq, heq⟩)
        · exact hqueue w hw hseq heq
        · exact hexec e he hseq heq
      rw [intakeSequenced_recent hlast hd, takeRecent_unknown (cached_eq_none hcache) hnone,
        takeStale_eq hlast]
      rfl

/-! ### Rows that the engine takes or queues -/

theorem sequencedRow_code {seq code : Byte} {p : List Byte} {i : Instr}
    (h : sequencedRow seq code p = some i) : code ≠ cancelCode ∧ code ≠ nodeResetCode := by
  constructor <;>
  · rintro rfl
    cases h

/-- Settles O36: the row hands the command over, and a busy engine begins nothing. -/
theorem newCommandWaitsWhileBusy : Obligations.NewCommandWaitsWhileBusy := by
  unfold Obligations.NewCommandWaitsWhileBusy
  intro s seq code p i hreset hclearing hlow hhigh hbusy hplace hslot hnew hrow
  obtain ⟨hcancel, hnodeReset⟩ := sequencedRow_code hrow
  rw [exec_sequencedRow hrow]
  exact handOver_busy (addressable_iff.2 ⟨hreset, hclearing, hlow, hhigh⟩) hbusy hplace hslot hnew hcancel
    hnodeReset

/-- A command that the engine is ready for is handed to intake, and begins. -/
theorem handOver_intake {s : State} {seq : Byte} (h : Ready seq s) (code : Byte) (p : List Byte) :
    handOver seq code p s = .next (intakeAddressed seq code p s) := by
  obtain ⟨hreset, hclearing, hlow, hhigh, -⟩ := h
  exact if_pos (addressable_iff.2 ⟨hreset, hclearing, hlow, hhigh⟩)

theorem mem_paletteLengths (n : Nat) :
    n ∈ (List.range 32).map (fun k => 7 + 5 * k) ↔ 7 ≤ n ∧ n ≤ 162 ∧ n % 5 = 2 := by
  simp only [List.mem_map, List.mem_range]
  refine ⟨?_, fun h => ⟨(n - 7) / 5, by omega, by omega⟩⟩
  rintro ⟨k, hk, rfl⟩
  omega

theorem mem_writeLengths (n : Nat) :
    n ∈ (List.range 200).map (fun k => 10 + k) ↔ 10 ≤ n ∧ n ≤ 209 := by
  simp only [List.mem_map, List.mem_range]
  refine ⟨?_, fun h => ⟨n - 10, by omega, by omega⟩⟩
  rintro ⟨k, hk, rfl⟩
  omega

/-- The lengths listed are those that the model's own check admits (R170). -/
theorem admits_iff {code : Byte} {c : Command} (h : Command.ofCode code = some c) (n : Nat) :
    c.admits n = true ↔ n ∈ payloadLengths code := by
  unfold Command.ofCode at h
  unfold payloadLengths
  split at h <;> cases h <;> rename_i hn <;> rw [hn] <;>
    simp only [Command.admits, decide_eq_true_eq, List.mem_singleton, mem_paletteLengths,
      mem_writeLengths]

/-- No length is listed just for a code that names no sequenced command. -/
theorem payloadLengths_eq_nil (code : Byte) :
    payloadLengths code = [] ↔ Command.ofCode code = none := by
  unfold Command.ofCode payloadLengths
  split <;> simp_all

/-- A payload of a length not listed is refused without an effect (R170). -/
theorem runSequenced_refused {code : Byte} {p : List Byte} (h : p.length ∉ payloadLengths code)
    (s : State) : runSequenced code p s =
      (s, .done (if payloadLengths code = [] then .unknownCode else .badLength) []) := by
  unfold runSequenced
  split
  · rename_i hcode
    rw [if_pos ((payloadLengths_eq_nil code).2 hcode)]
  · rename_i c hcode
    have hknown : payloadLengths code ≠ [] := by simp [payloadLengths_eq_nil, hcode]
    rw [if_neg (mt (admits_iff hcode _).1 h), if_neg hknown]

/-- Settles O35: the command is taken and begins at once, and its length is looked at first. -/
theorem wrongLengthIsRefused : Obligations.WrongLengthIsRefused := by
  unfold Obligations.WrongLengthIsRefused
  rintro s seq code p hready hcancel hreset hlength status rfl
  have hover : handOver seq code p s = .next (s.answered seq code
      (if payloadLengths code = [] then .unknownCode else .badLength) []) := by
    rw [handOver_ready hready hcancel hreset, beginQueued_done (runSequenced_refused hlength _)]
  refine ⟨?_, fun i hrow => (exec_sequencedRow hrow s).trans hover⟩
  rw [handOver_intake hready] at hover
  exact Host.Outcome.next.inj hover

/-! ### Beginnings in turn (R169) -/

/-- While the engine cannot begin a command, no number of attempts begins one. -/
theorem beginNexts_busy {s : State} (h : canBegin s = false) (n : Nat) :
    runActs (List.replicate n beginNext) s = s := by
  refine runActs_induct (P := fun x => x = s) (fun act hact x hx => ?_) rfl
  rw [List.eq_of_mem_replicate hact, hx]
  simp [beginNext, h]

/-- The head of the queue begins, then as many attempts follow as commands stood behind it. -/
theorem settleEngine_cons {s : State} {q : Queued} {rest : List Queued} (hidle : canBegin s = true)
    (hqueue : s.ce.queue = q :: rest) : settleEngine s =
      runActs (List.replicate rest.length beginNext)
        (beginQueued q (s.withCe { s.ce with queue := rest })) := by
  rw [settleEngine, settleActs, hqueue, List.length_cons, List.replicate_succ, runActs_cons, beginNext,
    if_pos hidle, hqueue]

/-- A command executed by its block, or refused, leaves the engine but for its counts (R191). -/
def CommandEngine.Recounted (c d : CommandEngine) : Prop :=
  d = { c with
    discarded := d.discarded, duplicates := d.duplicates, discardedSince := d.discardedSince }

theorem checked_recounted {checks : List (Bool × Nat)} {effect : State → State × Result} {s : State}
    (h : s.ce.Recounted (effect s).1.ce) : s.ce.Recounted (checked checks effect s).1.ce := by
  unfold checked
  split
  · rfl
  · exact h

theorem whileOpen_recounted {run : State → State × Result} {s : State}
    (h : s.ce.Recounted (run s).1.ce) : s.ce.Recounted (whileOpen run s).1.ce := by
  unfold whileOpen
  split_ifs
  · exact h
  · rfl

theorem Command.run_recounted (c : Command) (p : List Byte) (s : State) :
    s.ce.Recounted (c.run p s).1.ce := by
  cases c with
  | setRegion | setPalette | setCue => exact whileOpen_recounted (checked_recounted rfl)
  | setNotifyMask | setTiming | readRegion | readPalette | readCue | setFence | readFence
  | readMeasure | setReport => exact checked_recounted rfl
  | editOpen => simp only [Command.run, runEditOpen]; split_ifs <;> rfl
  | editClose =>
    simp only [Command.run, runEditClose]
    split_ifs
    · split <;> rfl
    · rfl
  | commit => simp only [Command.run, runCommit]; split_ifs <;> rfl
  | readInfo | readStatus | clearCounters | ovlWrite | ovlFill | ovlCopy | ovlRead => rfl

theorem runSequenced_recounted (code : Byte) (p : List Byte) (s : State) :
    s.ce.Recounted (runSequenced code p s).1.ce := by
  unfold runSequenced
  split
  · rfl
  · split_ifs
    · exact Command.run_recounted _ p s
    · rfl

theorem CommandEngine.Recounted.exec {c d : CommandEngine} (h : c.Recounted d) : d.exec = c.exec := by
  rw [h]

theorem CommandEngine.Recounted.queue {c d : CommandEngine} (h : c.Recounted d) : d.queue = c.queue := by
  rw [h]

/-- With none in execution an answered command is a completed one. -/
theorem answer_eq_completed {s : State} (h : s.ce.exec = none) (q : Queued) (st : Status)
    (d : List Byte) : answer q st d s = s.completed q st d := by
  simp [answer, queueResponse, cacheResponse, State.completed, State.withCe, Config.commandPlaces, h]

theorem commandBegin_running {s : State} (h : s.resetLow = false) :
    exec .commandBegin s = .next (settleEngine s) := if_neg (by simp [h])

section Turn
variable {s u t : State} {q : Queued} {rest : List Queued} (hreset : s.resetLow = false)
  (hidle : canBegin s = true) (hqueue : s.ce.queue = q :: rest)
  (hu : u = { s with ce := { s.ce with queue := rest } })
include hreset hidle hqueue hu

/-- A head that stays in execution is the last to begin. -/
theorem commandBegin_stays {p : Progress}
    (hbegin : beginQueued q u = t.withCe { t.ce with exec := some ⟨q, p⟩ }) :
    exec .commandBegin s = .next { t with ce := { t.ce with exec := some ⟨q, p⟩ } } := by
  subst hu
  rw [commandBegin_running hreset, settleEngine_cons hidle hqueue]
  refine congrArg _ ((congrArg _ hbegin).trans (beginNexts_busy ?_ _))
  simp [canBegin]

/-- Behind a head that is done, what stood behind it begins as if the engine had found it so. -/
theorem commandBegin_done (hbegin : beginQueued q u = t) (hrest : t.ce.queue = rest) :
    exec .commandBegin s = exec .commandBegin t := by
  have hrunning : t.resetLow = false := by
    rw [← hbegin, (beginQueued_keeps q u).2.1, hu]
    exact hreset
  subst hu
  rw [commandBegin_running hreset, commandBegin_running hrunning, settleEngine_cons hidle hqueue,
    settleEngine, settleActs, hrest]
  exact congrArg _ (congrArg _ hbegin)

end Turn

theorem beginQueued_of_stays {q : Queued} {s t : State} {p : Progress} (hq : q.sequenced = true)
    (h : runSequenced q.code q.payload s = (t, .stays p)) :
    beginQueued q s = t.withCe { t.ce with exec := some ⟨q, p⟩ } := by
  rw [beginQueued, if_pos hq, h]

theorem beginQueued_of_done {q : Queued} {s t : State} {st : Status} {d : List Byte}
    (hq : q.sequenced = true) (h : runSequenced q.code q.payload s = (t, .done st d)) :
    beginQueued q s = answer q st d t := by
  rw [beginQueued, if_pos hq, h]

theorem beginQueued_broadcast_stays {q : Queued} {s t : State} {p : Progress} (hq : q.sequenced = false)
    (h : runBroadcastCommit q.payload s = (t, some p)) :
    beginQueued q s = t.withCe { t.ce with exec := some ⟨q, p⟩ } := by
  rw [beginQueued, if_neg (by simp [hq]), h]

theorem beginQueued_broadcast_done {q : Queued} {s t : State} (hq : q.sequenced = false)
    (h : runBroadcastCommit q.payload s = (t, none)) : beginQueued q s = t := by
  rw [beginQueued, if_neg (by simp [hq]), h]

/-- The head of any queue is executed, and what follows depends on whether it is done (R169, R171, R172). -/
theorem commandBegin_head {s u t : State} {q : Queued} {rest : List Queued}
    (hreset : s.resetLow = false) (hexec : s.ce.exec = none) (hop : s.os.op = none)
    (hqueue : s.ce.queue = q :: rest) (hu : u = { s with ce := { s.ce with queue := rest } }) :
    (q.sequenced = true →
      (∀ p, runSequenced q.code q.payload u = (t, .stays p) →
        exec .commandBegin s = .next { t with ce := { t.ce with exec := some ⟨q, p⟩ } }) ∧
      ∀ status data, runSequenced q.code q.payload u = (t, .done status data) →
        exec .commandBegin s = exec .commandBegin (t.completed q status data)) ∧
    (q.sequenced = false →
      (∀ p, runBroadcastCommit q.payload u = (t, some p) →
        exec .commandBegin s = .next { t with ce := { t.ce with exec := some ⟨q, p⟩ } }) ∧
      (runBroadcastCommit q.payload u = (t, none) →
        exec .commandBegin s = exec .commandBegin t)) := by
  have hidle : canBegin s = true := by simp [canBegin, hexec, hop]
  have hstays := fun {t p} => commandBegin_stays (t := t) (p := p) hreset hidle hqueue hu
  have hdone := fun {t} => commandBegin_done (t := t) hreset hidle hqueue hu
  have huexec : u.ce.exec = none := by rw [hu]; exact hexec
  have huqueue : u.ce.queue = rest := by rw [hu]
  refine ⟨fun hq => ⟨fun p hrun => hstays (beginQueued_of_stays hq hrun), fun status data hrun => ?done⟩,
    fun hq => ⟨fun p hrun => hstays (beginQueued_broadcast_stays hq hrun), fun hrun => ?broadcastDone⟩⟩
  case done =>
    have hrecounted := runSequenced_recounted q.code q.payload u
    rw [hrun] at hrecounted
    exact hdone ((beginQueued_of_done hq hrun).trans
        (answer_eq_completed (hrecounted.exec.trans huexec) q status data))
      (hrecounted.queue.trans huqueue)
  case broadcastDone =>
    obtain ⟨-, -, -, -, -, -, -, -, -, -, -, hce⟩ := runBroadcastCommit_keeps q.payload u
    rw [hrun] at hce
    exact hdone (beginQueued_broadcast_done hq hrun) ((congrArg _ hce).trans huqueue)

/-- A command taken by an engine that is ready waits alone until the engine settles. -/
theorem intakeAddressed_ready {s : State} {seq code : Byte} {p : List Byte} (h : Ready seq s)
    (hcancel : code ≠ cancelCode) (hnodeReset : code ≠ nodeResetCode) :
    intakeAddressed seq code p s = settleEngine (s.waiting ⟨true, seq, code, p⟩) := by
  obtain ⟨-, -, -, -, -, -, hqueue, hslot, hnew⟩ := h
  rw [intakeAddressed, if_neg hcancel, if_neg hnodeReset, intakeSequenced_new hnew,
    takeNew_room (by rw [hqueue]; decide) hslot]

/-- A command in execution, a record not empty or an empty queue leaves nothing to begin. -/
theorem settleEngine_nothing {s : State}
    (h : s.ce.exec.isSome = true ∨ s.os.op.isSome = true ∨ s.ce.queue = []) : settleEngine s = s := by
  obtain hexec | hop | hqueue := h
  · exact settleEngine_busy (by simp [canBegin, ← Option.not_isSome, hexec])
  · exact settleEngine_busy (by simp [canBegin, ← Option.not_isSome, hop])
  · exact settleEngine_empty hqueue

/-- Settles O37: by the head of the queue; a command alone in the queue is one handed over, before the engine
settles. -/
theorem commandsBeginInTurn : Obligations.CommandsBeginInTurn := by
  unfold Obligations.CommandsBeginInTurn
  refine ⟨fun s seq hready => ?info, fun s seq hreset hexec hop hqueue => ?alone,
    fun s u t q rest hreset hexec hop hqueue hu => commandBegin_head hreset hexec hop hqueue hu,
    fun s seq code p i hready hrow => ?waiting, fun s h => ?nothing⟩
  case info => exact handOver_done (c := .readInfo) hready rfl rfl rfl
  case alone =>
    obtain ⟨hsequenced, -⟩ := commandBegin_head hreset hexec hop hqueue rfl
    obtain ⟨-, hdone⟩ := hsequenced rfl
    rw [hdone .ok infoOctets rfl, commandBegin_running (by exact hreset), settleEngine_empty rfl]
    rfl
  case waiting =>
    obtain ⟨hcancel, hnodeReset⟩ := sequencedRow_code hrow
    rw [exec_sequencedRow hrow, handOver_intake hready, intakeAddressed_ready hready hcancel hnodeReset]
    obtain ⟨hrunning, -⟩ := hready
    exact commandBegin_running hrunning
  case nothing =>
    simp only [exec, execCommandBegin, whileRunning, settleEngine_nothing h, ite_self]

end Sys2Proof.Machine
end

section
/-! The places and slots of the engine: what beginnings, completions, intake and emissions leave of them (R160,
R161, R165, R168, R171, R174, R176). -/

namespace Sys2Proof.Machine

/-! ### The accounts -/

/-- The reservation of the command in execution: one for a sequenced command, none for a broadcast one (R161). -/
def CommandEngine.inExecution (c : CommandEngine) : Nat :=
  match c.exec with
  | some e => if e.command.sequenced then 1 else 0
  | none => 0

/-- The commands that a waiting CANCEL has removed and is still to answer (R176). -/
def CommandEngine.removed (c : CommandEngine) : Nat :=
  match c.cancel with
  | some w => w.removed.length
  | none => 0

/-- Responses that occupy the immediate slot (R160). -/
def CommandEngine.immediates (c : CommandEngine) : Nat := c.responses.countP fun r => r.immediate

/-- Places, cache and slots are within their bounds, and each reservation stands for a sequenced command: in
the queue, in execution, or one of `owed` others still to be answered (R160, R161, R174). -/
def CommandEngine.Accounts (c : CommandEngine) (owed : Nat) : Prop :=
  c.queue.length ≤ 8 ∧ c.cache.length ≤ 8 ∧ c.sequencedResponses + c.reservations ≤ 8 ∧
    c.reservations = c.queue.countP Queued.sequenced + c.inExecution + owed

/-- The immediate slot is reserved for the CANCEL that waits, and filled by the one immediate response
(R160, R168, R176). -/
def CommandEngine.SlotAgrees (c : CommandEngine) : Prop :=
  (∀ w ∈ c.cancel, c.slot = .reserved ∧ ∀ q ∈ w.removed, q.sequenced = true) ∧
  (c.slot = .reserved → c.cancel.isSome = true) ∧
  c.immediates = if c.slot = .filled then 1 else 0

theorem capacityLaw_iff (s : State) :
    CapacityLaw s ↔ s.ce.Accounts s.ce.removed ∧ s.ce.SlotAgrees := by
  constructor
  · rintro ⟨hplaces, hcopies, hslots, howes, hslot⟩
    exact ⟨⟨hplaces, hcopies, hslots, howes⟩, hslot⟩
  · rintro ⟨⟨hplaces, hcopies, hslots, howes⟩, hslot⟩
    exact ⟨hplaces, hcopies, hslots, howes, hslot⟩

/-- The law looks at the engine only. -/
theorem CapacityLaw.of_ce {s t : State} (h : CapacityLaw s) (hce : t.ce = s.ce) : CapacityLaw t := by
  rw [capacityLaw_iff] at h ⊢
  rwa [hce]

/-- The counts of R165 may change. -/
theorem CapacityLaw.recounted {s t : State} (h : CapacityLaw s) (hce : s.ce.Recounted t.ce) :
    CapacityLaw t := by
  rw [capacityLaw_iff] at h ⊢
  rw [hce]
  exact h

theorem capacityLaw_initial {s : State} (h : s.ce = .initial) : CapacityLaw s := by
  rw [CapacityLaw, h]
  decide

/-! ### Responses -/

@[simp] theorem queueResponse_sequencedResponses (r : Response) (s : State) :
    (queueResponse r s).ce.sequencedResponses =
      s.ce.sequencedResponses + if r.immediate then 0 else 1 := by
  cases h : r.immediate <;> simp [queueResponse, CommandEngine.sequencedResponses, h]

@[simp] theorem queueResponse_immediates (r : Response) (s : State) :
    (queueResponse r s).ce.immediates = s.ce.immediates + if r.immediate then 1 else 0 := by
  cases h : r.immediate <;> simp [queueResponse, CommandEngine.immediates, h]

@[simp] theorem answer_sequencedResponses (q : Queued) (st : Status) (d : List Byte) (s : State) :
    (answer q st d s).ce.sequencedResponses = s.ce.sequencedResponses + 1 :=
  queueResponse_sequencedResponses _ _

@[simp] theorem answer_immediates (q : Queued) (st : Status) (d : List Byte) (s : State) :
    (answer q st d s).ce.immediates = s.ce.immediates := queueResponse_immediates _ _

@[simp] theorem answers_immediates (l : List Queued) (st : Status) (d : Queued → List Byte)
    (s : State) : (l.foldl (fun t q => answer q st (d q) t) s).ce.immediates = s.ce.immediates := by
  induction l generalizing s with
  | nil => rfl
  | cons q l ih => exact (ih _).trans (answer_immediates ..)

/-- An answer turns the reservation of a command into a response (R171). -/
theorem answer_accounts {s : State} {owed : Nat} (h : s.ce.Accounts (owed + 1)) (q : Queued) (st : Status)
    (d : List Byte) : (answer q st d s).ce.Accounts owed := by
  obtain ⟨hplaces, -, hslots, howes⟩ := h
  refine ⟨hplaces, ?_, ?_, ?_⟩
  · simp [answer, queueResponse, cacheResponse, Config.commandPlaces]
    omega
  · rw [answer_sequencedResponses]
    change _ + (s.ce.reservations - 1) ≤ 8
    omega
  · change s.ce.reservations - 1 = s.ce.queue.countP Queued.sequenced + s.ce.inExecution + owed
    omega

theorem answers_accounts (l : List Queued) {s : State} {owed : Nat} (h : s.ce.Accounts (owed + l.length))
    (st : Status) (d : Queued → List Byte) :
    (l.foldl (fun t q => answer q st (d q) t) s).ce.Accounts owed := by
  induction l generalizing s with
  | nil => exact h
  | cons q l ih => exact ih (answer_accounts h ..)

theorem answer_slotAgrees {s : State} (h : s.ce.SlotAgrees) (q : Queued) (st : Status) (d : List Byte) :
    (answer q st d s).ce.SlotAgrees := by
  obtain ⟨hwaits, hreserved, hfilled⟩ := h
  exact ⟨hwaits, hreserved, (answer_immediates ..).trans hfilled⟩

/-! ### Beginnings (R169 to R172) -/

/-- The head of the queue, while it is neither in the queue nor in execution, is owed its answer. -/
theorem CommandEngine.Accounts.pop {c : CommandEngine} {owed : Nat} (h : c.Accounts owed) {q : Queued}
    {rest : List Queued} (hqueue : c.queue = q :: rest) :
    CommandEngine.Accounts { c with queue := rest } (owed + if q.sequenced then 1 else 0) := by
  obtain ⟨hplaces, hcopies, hslots, howes⟩ := h
  rw [hqueue, List.length_cons] at hplaces
  rw [hqueue, List.countP_cons] at howes
  refine ⟨by dsimp only; omega, hcopies, hslots, ?_⟩
  change c.reservations = rest.countP Queued.sequenced + c.inExecution + _
  omega

/-- A command that stays in execution keeps its reservation. -/
theorem CommandEngine.Accounts.execute {c : CommandEngine} {owed : Nat} (hidle : c.exec = none)
    (q : Queued) (p : Progress) (h : c.Accounts (owed + if q.sequenced then 1 else 0)) :
    CommandEngine.Accounts { c with exec := some ⟨q, p⟩ } owed := by
  obtain ⟨hplaces, hcopies, hslots, howes⟩ := h
  refine ⟨hplaces, hcopies, hslots, ?_⟩
  have hnone : c.inExecution = 0 := by simp [CommandEngine.inExecution, hidle]
  change c.reservations = c.queue.countP Queued.sequenced + (if q.sequenced then 1 else 0) + owed
  omega

/-- What a beginning can do to the engine: a command done at once is answered, one that stays is in
execution, and a broadcast one that is skipped leaves nothing (R29, R171, R172). -/
theorem beginQueued_cases (q : Queued) (s : State) :
    (∃ (t : State) (st : Status) (d : List Byte),
      s.ce.Recounted t.ce ∧ q.sequenced = true ∧ beginQueued q s = answer q st d t) ∨
    (∃ (t : State) (p : Progress), s.ce.Recounted t.ce ∧
      beginQueued q s = t.withCe { t.ce with exec := some ⟨q, p⟩ }) ∨
    q.sequenced = false ∧ (beginQueued q s).ce = s.ce := by
  cases hq : q.sequenced with
  | true =>
    have hce := runSequenced_recounted q.code q.payload s
    generalize hrun : runSequenced q.code q.payload s = r at hce
    obtain ⟨t, _ | p⟩ := r
    · exact .inl ⟨t, _, _, hce, rfl, beginQueued_of_done hq hrun⟩
    · exact .inr (.inl ⟨t, p, hce, beginQueued_of_stays hq hrun⟩)
  | false =>
    obtain ⟨-, -, -, -, -, -, -, -, -, -, -, hce⟩ := runBroadcastCommit_keeps q.payload s
    generalize hrun : runBroadcastCommit q.payload s = r at hce
    obtain ⟨t, _ | p⟩ := r
    · exact .inr (.inr ⟨rfl, by rw [beginQueued_broadcast_done hq hrun, hce]⟩)
    · exact .inr (.inl ⟨t, p, by rw [hce]; rfl, beginQueued_broadcast_stays hq hrun⟩)

theorem beginQueued_accounts {q : Queued} {s : State} {owed : Nat} (hidle : s.ce.exec = none)
    (h : s.ce.Accounts (owed + if q.sequenced then 1 else 0)) : (beginQueued q s).ce.Accounts owed := by
  obtain ⟨t, st, d, hce, hq, hbegin⟩ | ⟨t, p, hce, hbegin⟩ | ⟨hq, hbegin⟩ := beginQueued_cases q s
  · rw [hbegin]
    rw [hq, if_pos rfl] at h
    exact answer_accounts (by rw [hce]; exact h) q st d
  · have ht : t.ce.Accounts (owed + if q.sequenced then 1 else 0) := by rw [hce]; exact h
    rw [hbegin]
    exact ht.execute (hce.exec.trans hidle) q p
  · rw [hbegin]
    simpa [hq] using h

/-- No beginning touches the immediate slot or a CANCEL that waits. -/
theorem beginQueued_slot (q : Queued) {s : State} (h : s.ce.SlotAgrees) :
    (beginQueued q s).ce.SlotAgrees ∧ (beginQueued q s).ce.removed = s.ce.removed := by
  obtain ⟨t, st, d, hce, -, hbegin⟩ | ⟨t, p, hce, hbegin⟩ | ⟨-, hbegin⟩ := beginQueued_cases q s
  · have ht : t.ce.SlotAgrees ∧ t.ce.removed = s.ce.removed := by rw [hce]; exact ⟨h, rfl⟩
    rw [hbegin]
    exact ⟨answer_slotAgrees ht.1 q st d, ht.2⟩
  · rw [hbegin, State.withCe_ce, hce]
    exact ⟨h, rfl⟩
  · rw [hbegin]
    exact ⟨h, rfl⟩

theorem beginNext_capacity {s : State} (h : CapacityLaw s) : CapacityLaw (beginNext s) := by
  unfold beginNext
  split_ifs with hcan
  · have hidle : s.ce.exec = none := by
      simp only [canBegin, Bool.and_eq_true, Option.isNone_iff_eq_none] at hcan
      exact hcan.1
    split
    · exact h
    · rename_i q rest hqueue
      obtain ⟨haccounts, hslot⟩ := (capacityLaw_iff s).1 h
      obtain ⟨hagrees, hremoved⟩ :=
        beginQueued_slot q (s := s.withCe { s.ce with queue := rest }) hslot
      refine (capacityLaw_iff _).2 ⟨?_, hagrees⟩
      rw [hremoved]
      exact beginQueued_accounts hidle (haccounts.pop hqueue)
  · exact h

/-- Acts that each keep the law of places and slots. -/
abbrev ActsKeepCapacity (acts : List (State → State)) : Prop :=
  ∀ act ∈ acts, ∀ x, CapacityLaw x → CapacityLaw (act x)

theorem settleActs_capacity (s : State) : ActsKeepCapacity (settleActs s) := fun act hact x hx => by
  rw [List.eq_of_mem_replicate hact]
  exact beginNext_capacity hx

theorem settleEngine_capacity {s : State} (h : CapacityLaw s) : CapacityLaw (settleEngine s) :=
  runActs_induct (settleActs_capacity s) h

/-! ### Completions (R171, R176) -/

@[simp] theorem completeCommand_immediates (st : Status) (d : List Byte) (s : State) :
    (completeCommand st d s).ce.immediates = s.ce.immediates := by
  unfold completeCommand
  split
  · dsimp only
    split_ifs
    · exact answer_immediates ..
    · rfl
  · rfl

@[simp] theorem completeCommand_slot (st : Status) (d : List Byte) (s : State) :
    (completeCommand st d s).ce.slot = s.ce.slot := by
  unfold completeCommand
  split
  · dsimp only
    split_ifs <;> rfl
  · rfl

/-- A command that completes uses up its reservation (R171). -/
theorem completeCommand_accounts {s : State} {owed : Nat} (h : s.ce.Accounts owed) (st : Status)
    (d : List Byte) : (completeCommand st d s).ce.Accounts owed := by
  unfold completeCommand
  split
  · rename_i e hexec
    obtain ⟨hplaces, hcopies, hslots, howes⟩ := h
    have hone : s.ce.inExecution = if e.command.sequenced then 1 else 0 := by
      simp only [CommandEngine.inExecution, hexec]
    have hended : (endExecution s).ce.Accounts (owed + s.ce.inExecution) := by
      refine ⟨hplaces, hcopies, hslots, ?_⟩
      change s.ce.reservations = s.ce.queue.countP Queued.sequenced + 0 + (owed + s.ce.inExecution)
      omega
    rw [hone] at hended
    dsimp only
    split_ifs at hended ⊢ with hsequenced
    · exact answer_accounts hended _ st d
    · exact hended
  · exact h

theorem completeCommand_capacity {s : State} (h : CapacityLaw s) (st : Status) (d : List Byte) :
    CapacityLaw (completeCommand st d s) := by
  obtain ⟨haccounts, hslot⟩ := (capacityLaw_iff s).1 h
  refine (capacityLaw_iff _).2 ⟨?_, ?_⟩
  · rw [CommandEngine.removed, completeCommand_cancel]
    exact completeCommand_accounts haccounts st d
  · simpa only [CommandEngine.SlotAgrees, completeCommand_cancel, completeCommand_slot,
      completeCommand_immediates] using hslot

theorem takeCommitApplied_capacity {s : State} (h : CapacityLaw s) : CapacityLaw (takeCommitApplied s) := by
  unfold takeCommitApplied
  split
  · exact completeCommand_capacity h _ _
  · exact completeCommand_capacity (by exact h) _ _
  · exact h

/-- An immediate response that is formed fills its slot (R168, R176). -/
theorem fill_capacity {r : Response} {s : State} (haccounts : s.ce.Accounts 0)
    (hnone : s.ce.immediates = 0) (hr : r.immediate = true) :
    CapacityLaw ((queueResponse r s).withCe
      { (queueResponse r s).ce with slot := .filled, cancel := none }) := by
  obtain ⟨hplaces, hcopies, hslots, howes⟩ := haccounts
  refine (capacityLaw_iff _).2 ⟨⟨hplaces, hcopies, ?_, howes⟩, fun _ hw => (nomatch hw),
    fun hslot => (nomatch hslot), ?_⟩
  · change (queueResponse r s).ce.sequencedResponses + s.ce.reservations ≤ 8
    simpa [hr] using hslots
  · change (queueResponse r s).ce.immediates = 1
    simp [hr, hnone]

/-- A CANCEL that completes answers every command it has removed, then fills the immediate slot (R176). -/
theorem completeCancel_capacity {c : CancelWait} {s : State} (h : s.ce.Accounts c.removed.length)
    (hnone : s.ce.immediates = 0) (d : List Byte) : CapacityLaw (completeCancel c d s) := by
  have hended := completeCommand_accounts h .cancelled d
  have hanswered := answers_accounts c.removed (owed := 0) (by simpa using hended) .cancelled removedData
  have himmediates := answers_immediates c.removed .cancelled removedData (completeCommand .cancelled d s)
  rw [completeCommand_immediates, hnone] at himmediates
  simp only [completeCancel]
  generalize c.removed.foldl (fun t q => answer q .cancelled (removedData q) t)
    (completeCommand .cancelled d s) = t at hanswered himmediates
  exact settleEngine_capacity (fill_capacity hanswered himmediates rfl)

/-! ### Store operations -/

theorem finishOperation_capacity (op : StoreOp) {s : State} (h : CapacityLaw s) :
    CapacityLaw (finishOperation op s) :=
  settleEngine_capacity (completeCommand_capacity (s := emptyRecord s) h _ _)

theorem advanceOperation_capacity (op : StoreOp) {s : State} (h : CapacityLaw s) :
    CapacityLaw (advanceOperation op s) := by
  simp only [advanceOperation]
  split
  · exact h
  · exact finishOperation_capacity _ h

theorem grantStore_capacity {s : State} (h : CapacityLaw s) : CapacityLaw (grantStore s) :=
  h.of_ce (by simp)

theorem completeChecks_capacity (op : StoreOp) {s : State} (h : CapacityLaw s) :
    CapacityLaw (completeChecks op s) := by
  unfold completeChecks
  split
  · exact settleEngine_capacity (completeCommand_capacity (s := emptyRecord s) h _ _)
  · exact grantStore_capacity (advanceOperation_capacity _ h)

/-- A CANCEL that waited for the burst of an ended operation has its slot reserved and completes (R117,
R176). -/
theorem endOperation_capacity (op : StoreOp) {s : State} (h : CapacityLaw s) :
    CapacityLaw (endOperation op s) := by
  simp only [endOperation, emptyRecord_keeps]
  split
  · rename_i c hcancel
    obtain ⟨haccounts, hwaits, -, hfilled⟩ := (capacityLaw_iff s).1 h
    obtain ⟨hreserved, -⟩ := hwaits c hcancel
    rw [CommandEngine.removed, hcancel] at haccounts
    exact completeCancel_capacity (s := emptyRecord s) haccounts (hfilled.trans (by simp [hreserved])) _
  · exact settleEngine_capacity (s := emptyRecord s) h

theorem completeWrite_capacity (op : StoreOp) (r : BurstRequest) {s : State} (h : CapacityLaw s) :
    CapacityLaw (completeWrite op r s) := by
  simp only [completeWrite]
  split_ifs
  · exact endOperation_capacity _ (s := s.withOs _) h
  · exact advanceOperation_capacity _ (s := s.withOs _) h

theorem completeRead_capacity (op : StoreOp) (r : BurstRequest) {s : State} (h : CapacityLaw s) :
    CapacityLaw (completeRead op r s) := by
  simp only [completeRead]
  split_ifs
  · exact endOperation_capacity _ h
  · exact h
  · exact advanceOperation_capacity _ h

theorem completeEngineBurst_capacity (g : Grant) {s : State} (h : CapacityLaw s) :
    CapacityLaw (completeEngineBurst g s) := by
  refine grantStore_capacity ?_
  split
  · split_ifs
    · exact completeWrite_capacity _ _ (s := s.withOs _) h
    · exact completeRead_capacity _ _ (s := s.withOs _) h
  · exact h

/-! ### Intake of sequenced commands (R161 to R165) -/

theorem discardCommand_capacity {s : State} (h : CapacityLaw s) : CapacityLaw (discardCommand s) :=
  h.recounted rfl

theorem answerAtIntake_capacity {r : Response} {s : State} (h : CapacityLaw s)
    (hr : r.immediate = false) : CapacityLaw (answerAtIntake r s) := by
  unfold answerAtIntake
  split_ifs with hfree
  · obtain ⟨⟨hplaces, hcopies, -, howes⟩, hwaits, hreserved, hfilled⟩ := (capacityLaw_iff s).1 h
    refine (capacityLaw_iff _).2 ⟨⟨hplaces, hcopies, ?_, howes⟩, hwaits, hreserved, ?_⟩
    · rw [queueResponse_sequencedResponses, hr]
      change s.ce.sequencedResponses + 1 + s.ce.reservations ≤ 8
      omega
    · rw [queueResponse_immediates, hr]
      exact hfilled
  · exact discardCommand_capacity h

theorem takeNew_capacity {q : Queued} {s : State} (h : CapacityLaw s) (hq : q.sequenced = true) :
    CapacityLaw (takeNew q s) := by
  rw [takeNew_eq]
  split_ifs with hfree
  · obtain ⟨hplace, hslot⟩ := hfree
    obtain ⟨⟨-, hcopies, -, howes⟩, hagrees⟩ := (capacityLaw_iff s).1 h
    refine (capacityLaw_iff _).2 ⟨⟨?_, hcopies, ?_, ?_⟩, hagrees⟩
    · simpa [State.waiting] using hplace
    · change s.ce.sequencedResponses + (s.ce.reservations + 1) ≤ 8
      omega
    · have hcount : (s.ce.queue ++ [q]).countP Queued.sequenced =
          s.ce.queue.countP Queued.sequenced + 1 := by simp [hq]
      change s.ce.reservations + 1 =
        (s.ce.queue ++ [q]).countP Queued.sequenced + s.ce.inExecution + s.ce.removed
      omega
  · exact discardCommand_capacity h

theorem takeStale_capacity (q : Queued) {s : State} {a : Byte} (hlast : s.ce.lastSeq = some a)
    (h : CapacityLaw s) : CapacityLaw (takeStale q s) := by
  rw [takeStale_eq hlast]
  exact answerAtIntake_capacity h rfl

theorem takeRecent_capacity (q : Queued) {s : State} {a : Byte} (hlast : s.ce.lastSeq = some a)
    (h : CapacityLaw s) : CapacityLaw (takeRecent q s) := by
  cases hcached : s.ce.cached q.seq with
  | some e =>
    rw [takeRecent_cached hcached]
    exact answerAtIntake_capacity h rfl
  | none =>
    cases hflight : s.ce.inFlight q.seq with
    | true =>
      rw [takeRecent_inFlight hcached hflight]
      exact h.recounted rfl
    | false =>
      rw [takeRecent_unknown hcached hflight]
      exact takeStale_capacity q hlast h

theorem intakeSequenced_capacity {q : Queued} {s : State} (h : CapacityLaw s) (hq : q.sequenced = true) :
    CapacityLaw (intakeSequenced q s) := by
  cases hlast : s.ce.lastSeq with
  | none =>
    rw [intakeSequenced_new (by rw [hlast]; rfl)]
    exact takeNew_capacity h hq
  | some a =>
    simp only [intakeSequenced, hlast]
    split_ifs
    · exact takeNew_capacity h hq
    · exact takeRecent_capacity q hlast h
    · exact takeStale_capacity q hlast h

theorem intakeBroadcastCommit_capacity (p : List Byte) {s : State} (h : CapacityLaw s) :
    CapacityLaw (intakeBroadcastCommit p s) := by
  unfold intakeBroadcastCommit
  split_ifs with hfree
  · obtain ⟨⟨-, hcopies, hslots, howes⟩, hagrees⟩ := (capacityLaw_iff s).1 h
    refine (capacityLaw_iff _).2 ⟨⟨?_, hcopies, hslots, ?_⟩, hagrees⟩
    · simpa using (placeFree_iff _).1 hfree
    · simpa [CommandEngine.inExecution, CommandEngine.removed] using howes
  · exact discardCommand_capacity h

/-! ### Immediate commands (R168, R176, R178) -/

/-- The immediate slot has just been reserved, and its response is still to be formed (R168). -/
structure SlotTaken (s : State) : Prop where
  accounts : s.ce.Accounts 0
  cancel : s.ce.cancel = none
  slot : s.ce.slot = .reserved
  immediates : s.ce.immediates = 0

theorem CapacityLaw.take {s : State} (h : CapacityLaw s) (hfree : s.ce.slot = .free) :
    SlotTaken (s.withCe { s.ce with slot := .reserved }) := by
  obtain ⟨haccounts, hwaits, -, hfilled⟩ := (capacityLaw_iff s).1 h
  have hcancel : s.ce.cancel = none := by
    refine Option.eq_none_iff_forall_not_mem.2 fun w hw => ?_
    obtain ⟨hreserved, -⟩ := hwaits w hw
    exact absurd (hfree.symm.trans hreserved) (by decide)
  rw [CommandEngine.removed, hcancel] at haccounts
  exact ⟨haccounts, hcancel, rfl, hfilled.trans (by simp [hfree])⟩

theorem fillSlot_capacity {s : State} (haccounts : s.ce.Accounts 0) (hcancel : s.ce.cancel = none)
    (hnone : s.ce.immediates = 0) (seq code : Byte) (st : Status) :
    CapacityLaw (fillSlot seq code st s) :=
  (fill_capacity (r := ⟨seq, code, st, false, [], true, 0⟩) haccounts hnone rfl).of_ce
    (by simp [fillSlot, queueResponse, hcancel])

/-- A CANCEL that is performed answers what it has removed, or waits with it (R175, R176). -/
theorem performCancel_capacity {s : State} (h : SlotTaken s) (seq code : Byte) :
    CapacityLaw (performCancel seq code s) := by
  obtain ⟨⟨hplaces, hcopies, hslots, howes⟩, hcancel, hreserved, hnone⟩ := h
  have hemptied : CommandEngine.Accounts { s.ce with queue := [] }
      (s.ce.queue.filter Queued.sequenced).length := by
    refine ⟨Nat.zero_le _, hcopies, hslots, ?_⟩
    change s.ce.reservations = 0 + s.ce.inExecution + _
    rw [← List.countP_eq_length_filter]
    omega
  have hcut : (cutOperation (s.withCe { s.ce with queue := [] })).1.ce =
      { s.ce with queue := [] } := by simp
  have hcomplete : ∀ (d : List Byte) (u : State), u.ce = { s.ce with queue := [] } →
      CapacityLaw (completeCancel ⟨seq, code, s.ce.queue.filter Queued.sequenced⟩ d u) := fun d u hu =>
    completeCancel_capacity (by rw [hu]; exact hemptied) (by rw [hu]; exact hnone) d
  simp only [performCancel]
  generalize cutOperation (s.withCe { s.ce with queue := [] }) = cut at hcut ⊢
  split
  · exact hcomplete _ _ rfl
  · split_ifs
    · refine (capacityLaw_iff _).2 ?_
      rw [State.withCe_ce, hcut]
      refine ⟨hemptied, ?_, fun _ => rfl, hnone.trans (by simp [hreserved])⟩
      rintro w ⟨⟩
      exact ⟨hreserved, fun q hq => (List.mem_filter.1 hq).2⟩
    · exact hcomplete _ _ hcut
  · exact hcomplete _ _ rfl
  · exact hcomplete _ _ rfl

/-- A NODE_RESET leaves the engine as power-on does (R178, R181). -/
theorem performReset_ce (s : State) : (performReset s).ce = .initial := by
  simp [performReset, resetCe, CommandEngine.initial]

theorem intakeImmediate_capacity {effect : State → State}
    (heffect : ∀ x, SlotTaken x → CapacityLaw (effect x)) (seq code : Byte) (p : List Byte) {s : State}
    (h : CapacityLaw s) : CapacityLaw (intakeImmediate effect seq code p s) := by
  simp only [intakeImmediate]
  split_ifs with hfree
  · exact heffect _ (h.take hfree)
  · obtain ⟨haccounts, hcancel, -, hnone⟩ := h.take hfree
    exact fillSlot_capacity haccounts hcancel hnone ..
  · exact discardCommand_capacity h

theorem intakeAddressed_capacity (seq code : Byte) (p : List Byte) {s : State} (h : CapacityLaw s) :
    CapacityLaw (intakeAddressed seq code p s) := by
  unfold intakeAddressed
  split_ifs
  · exact intakeImmediate_capacity (fun x hx => performCancel_capacity hx ..) _ _ _ h
  · refine intakeImmediate_capacity (fun x _ => ?_) _ _ _ h
    obtain ⟨haccounts, hslot⟩ := (capacityLaw_iff _).1 (capacityLaw_initial (performReset_ce x))
    rw [performReset_ce] at haccounts
    exact fillSlot_capacity (by rw [performReset_ce]; exact haccounts) (by rw [performReset_ce]; rfl)
      (by rw [performReset_ce]; rfl) ..
  · exact settleEngine_capacity (intakeSequenced_capacity h rfl)

theorem intakeBroadcast_capacity (code : Byte) (p : List Byte) {s : State} (h : CapacityLaw s) :
    CapacityLaw (intakeBroadcast code p s) := by
  unfold intakeBroadcast intakeBroadcastReset
  split_ifs
  · exact capacityLaw_initial (performReset_ce s)
  · exact discardCommand_capacity h
  · exact settleEngine_capacity (intakeBroadcastCommit_capacity p h)

/-- An enumeration empties the replay cache (R148). -/
theorem takeEnumeration_capacity {s : State} (h : CapacityLaw s) : CapacityLaw (takeEnumeration s) := by
  obtain ⟨⟨hplaces, -, hslots, howes⟩, hagrees⟩ := (capacityLaw_iff s).1 h
  exact (capacityLaw_iff _).2 ⟨⟨hplaces, Nat.zero_le _, hslots, howes⟩, hagrees⟩

/-! ### Emissions (R154, R165) -/

/-- The oldest response frees its slot when it is emitted: the immediate one, or a sequenced one. -/
theorem emitResponse_capacity {r : Response} {s : State} (h : CapacityLaw s)
    (hhead : s.ce.responses.head? = some r) : CapacityLaw (emitResponse r s) := by
  obtain ⟨rest, hresponses⟩ := List.head?_eq_some_iff.1 hhead
  obtain ⟨⟨hplaces, hcopies, hslots, howes⟩, hwaits, hreserved, hfilled⟩ := (capacityLaw_iff s).1 h
  rw [CommandEngine.sequencedResponses, hresponses, List.countP_cons] at hslots
  rw [CommandEngine.immediates, hresponses, List.countP_cons] at hfilled
  have hrest : (emitResponse r s).ce.responses = rest := by simp [emitResponse, hresponses]
  cases hr : r.immediate with
  | true =>
    simp only [hr, Bool.not_true, Bool.false_eq_true, if_false, if_true] at hslots hfilled
    have hslot : s.ce.slot = .filled := by
      by_contra hother
      rw [if_neg hother] at hfilled
      omega
    have hfree : (emitResponse r s).ce.slot = .free := if_pos hr
    refine (capacityLaw_iff _).2 ⟨⟨hplaces, hcopies, ?_, howes⟩, fun w hw => ?_, ?_, ?_⟩
    · rw [CommandEngine.sequencedResponses, hrest]
      exact hslots
    · obtain ⟨hwaiting, -⟩ := hwaits w hw
      exact absurd (hslot.symm.trans hwaiting) (by decide)
    · simp [hfree]
    · rw [CommandEngine.immediates, hrest, hfree]
      simpa [hslot] using hfilled
  | false =>
    simp only [hr, Bool.not_false, if_true, Bool.false_eq_true, if_false] at hslots hfilled
    have hkept : (emitResponse r s).ce.slot = s.ce.slot := if_neg (by simp [hr])
    refine (capacityLaw_iff _).2 ⟨⟨hplaces, hcopies, ?_, howes⟩, ?_⟩
    · rw [CommandEngine.sequencedResponses, hrest]
      change rest.countP _ + s.ce.reservations ≤ 8
      omega
    · rw [CommandEngine.SlotAgrees, CommandEngine.immediates, hrest, hkept]
      exact ⟨hwaits, hreserved, hfilled⟩

/-- Only the oldest response is chosen for insertion (R152, R153). -/
theorem choosePacket_response {n : Nat} {b : Bool} {s : State} {r : Response}
    (h : choosePacket n b s = some (.response r)) : s.ce.responses.head? = some r := by
  have heligible : eligibleResponse n s = some r := by
    unfold choosePacket at h
    split at h
    · cases h
    · cases h; assumption
    · cases h
    · split_ifs at h <;> cases h
      assumption
  exact (Option.filter_eq_some_iff.1 heligible).1

theorem insertNext_capacity {x : State × Assembly} (h : CapacityLaw x.1) :
    CapacityLaw (insertNext x).1 := by
  obtain ⟨s, a⟩ := x
  cases hchosen : choosePacket a.line a.responseTurn s with
  | none => rwa [insertNext_none hchosen]
  | some c =>
    rw [insertNext_some hchosen]
    split_ifs
    · cases c with
      | response r => exact emitResponse_capacity h (choosePacket_response hchosen)
      | notification e => exact h.of_ce rfl
    · exact h

/-! ### Packets and pixel words -/

theorem handOver_capacity {seq code : Byte} {p : List Byte} {s t : State} (h : CapacityLaw s)
    (hnext : handOver seq code p s = .next t) : CapacityLaw t := by
  obtain rfl | rfl := handOver_next hnext
  · exact h
  · exact intakeAddressed_capacity seq code p h

theorem forwardPacket_capacity (p : Packet) {s : State} (h : CapacityLaw s) :
    CapacityLaw (forwardPacket p s) := h.of_ce (by simp)

theorem takeBroadcast_capacity (p : Packet) {s : State} (h : CapacityLaw s) :
    CapacityLaw (takeBroadcast p s) := by
  simp only [takeBroadcast]
  split_ifs
  · exact intakeBroadcast_capacity _ _ h
  · exact h

theorem takeEnum_capacity (p : Packet) {s : State} (h : CapacityLaw s) : CapacityLaw (takeEnum p s) := by
  simp only [takeEnum]
  split
  · exact forwardPacket_capacity p h
  · split_ifs <;> exact forwardPacket_capacity _ (takeEnumeration_capacity (s := s.withMlu _) h)

theorem takePacket_capacity (p : Packet) {s : State} (h : CapacityLaw s) :
    CapacityLaw (takePacket p s) := by
  have hdraw : CapacityLaw (s.withFree (s.free + 1)) := h
  simp only [takePacket]
  split_ifs
  · exact forwardPacket_capacity p (s := s.withMlu _) h
  · exact intakeAddressed_capacity _ _ _ h
  · simp only [eitherOrder]
    split_ifs
    · exact takeBroadcast_capacity p (forwardPacket_capacity p hdraw)
    · exact forwardPacket_capacity p (takeBroadcast_capacity p hdraw)
  · exact takeBroadcast_capacity p (forwardPacket_capacity p h)
  · exact takeEnum_capacity p h
  · exact forwardPacket_capacity p h

theorem feedOctet_capacity (o : Byte) {s : State} (h : CapacityLaw s) : CapacityLaw (feedOctet s o) := by
  simp only [feedOctet]
  split
  · exact h
  · split_ifs
    · exact h
    · exact h
    · exact h
    · exact h
    · exact h
    · exact takePacket_capacity _ (s := setParse _ s) h
    · exact h

theorem feedOctets_capacity (l : List Byte) {s : State} (h : CapacityLaw s) :
    CapacityLaw (l.foldl feedOctet s) := by
  induction l generalizing s with
  | nil => exact h
  | cons o l ih => exact ih (feedOctet_capacity o h)

theorem takePixelWord_capacity (bits : BitVec 31) {s : State} (h : CapacityLaw s) :
    CapacityLaw (takePixelWord bits s) := by
  simp only [takePixelWord]
  split
  · exact h
  · split_ifs
    · exact feedOctets_capacity _ (s := s.withRtu _) h
    · exact h
    · exact h

end Sys2Proof.Machine
end

section
/-! Every step keeps the places and slots of the engine (R160, R161, R168, R171, R174, R176). -/

namespace Sys2Proof.Machine

/-! ### Acts of a line start -/

/-- Acts that leave the engine keep its law. -/
theorem actsKeepCapacity_of_ce {acts : List (State → State)}
    (h : ∀ act ∈ acts, ∀ x : State, (act x).ce = x.ce) : ActsKeepCapacity acts :=
  fun act hact x hx => hx.of_ce (h act hact x)

theorem actsKeepCapacity_nil : ActsKeepCapacity [] := List.forall_mem_nil _

theorem endParseActs_capacity (s : State) : ActsKeepCapacity (endParseActs s) :=
  actsKeepCapacity_of_ce fun act hact x => by simp [endParseActs_each s act hact x]

theorem dropActs_capacity (l : Option InputLine) : ActsKeepCapacity (dropActs l) :=
  actsKeepCapacity_of_ce fun act hact x => by simp [dropActs_each l act hact x]

theorem dueFrameEndActs_capacity (s : State) : ActsKeepCapacity (dueFrameEndActs s) :=
  actsKeepCapacity_of_ce fun act hact x => by simp [dueFrameEndActs_each s act hact x]

theorem setReady_capacity {s : State} (h : CapacityLaw s) : CapacityLaw (setReady s) := h.of_ce (by simp)

theorem commitNow_capacity {s : State} (h : CapacityLaw s) : CapacityLaw (commitNow s) :=
  takeCommitApplied_capacity (h.of_ce (by simp [applyCommit]))

/-- An activation event completes the command that waits for it, and begins those behind it (R30 to R34,
R169). -/
theorem activationActs_capacity (s : State) : ActsKeepCapacity (activationActs s) := by
  unfold activationActs
  split_ifs
  · refine List.forall_mem_singleton.2 fun x h => setReady_capacity (h.of_ce ?_)
    unfold countEdit
    split_ifs <;> simp [expireEdit]
  · exact List.forall_mem_cons.2 ⟨fun x => commitNow_capacity, settleActs_capacity s⟩
  · exact List.forall_mem_singleton.2 fun x => setReady_capacity

theorem dueActivationActs_capacity (s : State) : ActsKeepCapacity (dueActivationActs s) := by
  unfold dueActivationActs
  split_ifs
  · exact actsKeepCapacity_nil
  · exact List.forall_mem_cons.2 ⟨fun x h => h, activationActs_capacity s⟩

theorem lineEventActs_capacity (activation : Bool) {others : List (State → State)} (s : State)
    (h : ActsKeepCapacity others) : ActsKeepCapacity (lineEventActs activation others s).1 := by
  intro act hact
  simp only [lineEventActs, mem_interleaved, List.mem_append] at hact
  obtain (hact | hact) | hact := hact
  · exact dueFrameEndActs_capacity s act hact
  · split_ifs at hact
    · exact dueActivationActs_capacity s act hact
    · exact absurd hact List.not_mem_nil
  · exact h act hact

/-! ### Output lines -/

/-- Emissions and events in any order (R153, R185). -/
theorem assembleAmong_capacity {events : List (State → State)} (words : Nat) (forward : List Packet)
    {s : State} (hevents : ActsKeepCapacity events) (h : CapacityLaw s) :
    CapacityLaw (assembleAmong events words forward s).1 := by
  simp only [assembleAmong]
  refine runActs_induct (P := fun x : State × Assembly => CapacityLaw x.1) (fun act hact x hx => ?_)
    (h.of_ce (by simp))
  rcases mem_interleaved.1 hact with hact | hact
  · obtain ⟨e, he, rfl⟩ := List.mem_map.1 hact
    exact hevents e he x.1 hx
  · obtain rfl | hact := List.mem_cons.1 hact
    · exact hx
    · rw [List.eq_of_mem_replicate hact]
      exact insertNext_capacity hx

theorem outputLineStart_capacity (kind : LineKind) (frameStart : Bool) (starts : List Pixel)
    (forward : List Packet) (activation : Bool) {others : List (State → State)} {s : State}
    (hothers : ActsKeepCapacity others) (h : CapacityLaw s) :
    CapacityLaw (outputLineStart kind frameStart starts forward activation others s) := by
  have hevents := lineEventActs_capacity activation s hothers
  have hdrawn : CapacityLaw (lineEventActs activation others s).2 := h.of_ce (by simp)
  have hsend : ∀ k f w x, CapacityLaw x → CapacityLaw (sendPixels k f w x) := fun _ _ _ _ hx => hx
  cases kind with
  | active => exact (runActs_induct hothers h).of_ce (by simp [outputLineStart])
  | mgmt => exact hsend _ _ _ _ (assembleAmong_capacity _ _ hevents hdrawn)
  | blank => exact hsend _ _ _ _ (runActs_induct hevents hdrawn)

theorem internalLine_capacity (i : Nat) {others : List (State → State)} {s : State}
    (hothers : ActsKeepCapacity others) (h : CapacityLaw s) : CapacityLaw (internalLine i others s) :=
  outputLineStart_capacity _ _ _ _ _ (s := s.withOut _) hothers h

theorem startInternalFrame_capacity (startedAt : Nat) {others : List (State → State)} {s : State}
    (hothers : ActsKeepCapacity others) (h : CapacityLaw s) :
    CapacityLaw (startInternalFrame startedAt others s) := by
  simp only [startInternalFrame]
  exact internalLine_capacity 0 hothers (h.of_ce (by split_ifs <;> simp))

theorem nextInternalFrame_capacity {s : State} (h : CapacityLaw s) : CapacityLaw (nextInternalFrame s) := by
  simp only [nextInternalFrame]
  generalize (if s.out.running = true then s.out.startedAt + s.out.period * 1000 else s.now) = begins
  split_ifs
  · exact startInternalFrame_capacity _ (actsKeepCapacity_of_ce (by simp)) (h.of_ce (by simp))
  · exact startInternalFrame_capacity _ actsKeepCapacity_nil (h.of_ce rfl)
  · exact startInternalFrame_capacity _ actsKeepCapacity_nil (h.of_ce rfl)

theorem paceInternal_capacity {s : State} (h : CapacityLaw s) : CapacityLaw (paceInternal s) := by
  simp only [paceInternal]
  split_ifs
  · exact h
  · exact nextInternalFrame_capacity h
  · exact internalLine_capacity _ actsKeepCapacity_nil (h.of_ce rfl)

/-! ### Input lines -/

theorem departLocked_capacity (new : LockState) (cause : LockCause) {errors : List (State → State)}
    {s : State} (herrors : ActsKeepCapacity errors) (h : CapacityLaw s) :
    CapacityLaw (departLocked new cause errors s) := by
  simp only [departLocked]
  refine startInternalFrame_capacity _ (fun act hact x hx => ?_) (h.of_ce (by simp))
  simp only [mem_interleaved, List.mem_append, List.mem_cons, List.not_mem_nil, or_false] at hact
  obtain ((hact | hact) | hact) | rfl | rfl := hact
  · exact herrors act hact x hx
  · exact dropActs_capacity _ act hact x hx
  · exact dropActs_capacity _ act hact x hx
  · exact hx.of_ce (by simp)
  · exact hx.of_ce (by simp)

theorem expireFlywheel_capacity (due : Nat) {s : State} (h : CapacityLaw s) :
    CapacityLaw (expireFlywheel due s) := by
  simp only [expireFlywheel]
  split_ifs <;> exact departLocked_capacity _ _ actsKeepCapacity_nil (h.of_ce rfl)

theorem takeFrameStart_capacity (ended : Option InputFrame) {errors : List (State → State)} {s : State}
    (herrors : ActsKeepCapacity errors) (h : CapacityLaw s) :
    CapacityLaw (takeFrameStart ended errors s) := by
  have hdepart : ∀ f, CapacityLaw (becomeCandidate f (departLocked .acquiring .mismatch errors s)) :=
    fun f => (departLocked_capacity .acquiring .mismatch herrors h).of_ce (by simp)
  unfold takeFrameStart
  split
  · exact h.of_ce (by simp)
  · split
    · split_ifs <;> exact h.of_ce (by simp)
    · exact h.of_ce (by simp)
  · split
    · split_ifs
      · exact h.of_ce (by simp)
      · exact hdepart _
    · exact hdepart _
  · split_ifs
    · split
      · split_ifs <;> exact h.of_ce (by simp)
      · exact h
    · exact h

theorem carryLine_capacity (first : Bool) (a : InputLine) (b : Option InputLine)
    {errors : List (State → State)} {s : State} (herrors : ActsKeepCapacity errors) (h : CapacityLaw s) :
    CapacityLaw (carryLine first a b errors s) := by
  simp only [carryLine]
  exact outputLineStart_capacity _ _ _ _ _ herrors (h.of_ce (by split_ifs <;> simp))

theorem followInput_capacity (a b : Option InputLine) (index : Nat) {errors : List (State → State)}
    {s : State} (herrors : ActsKeepCapacity errors) (h : CapacityLaw s) :
    CapacityLaw (followInput a b index errors s) := by
  unfold followInput
  split
  · split_ifs
    · exact carryLine_capacity _ _ _ herrors h
    · exact carryLine_capacity _ _ _ herrors (h.of_ce rfl)
    · exact runActs_induct herrors h
  · exact runActs_induct herrors h

theorem takeLineStart_capacity (bits : BitVec 31) (clock : Nat) {s : State} (h : CapacityLaw s) :
    CapacityLaw (takeLineStart bits clock s) := by
  have hended := endParseActs_capacity s
  have hbegin : CapacityLaw (lineEnded clock s) := h.of_ce (by simp [lineEnded])
  have hline : ∀ l x, CapacityLaw x → CapacityLaw (beginLine l x) :=
    fun l x hx => hx.of_ce (by simp [beginLine])
  cases hbits : bits.getLsbD 4 with
  | false =>
    rw [takeLineStart_within clock s hbits]
    exact hline _ _ (followInput_capacity _ _ _ hended hbegin)
  | true =>
    rw [takeLineStart_frame clock s hbits rfl]
    refine hline _ _ (followInput_capacity _ _ _ ?_ ?_)
    · split_ifs
      · exact actsKeepCapacity_nil
      · exact hended
    · exact takeFrameStart_capacity _ hended hbegin

/-! ### Rows -/

theorem whileRunning_capacity {effect : State → State} {s t : State} (h : CapacityLaw s)
    (heffect : CapacityLaw (effect s)) (hnext : whileRunning effect s = .next t) : CapacityLaw t := by
  rcases whileRunning_next hnext with rfl | rfl <;> assumption

theorem startFirstFrame_capacity {s : State} (h : CapacityLaw s) : CapacityLaw (startFirstFrame s) :=
  startInternalFrame_capacity _ actsKeepCapacity_nil h

/-- Every row keeps the places and slots. -/
theorem exec_capacity {c : Instr} {s t : State} (h : CapacityLaw s) (hnext : exec c s = .next t) :
    CapacityLaw t := by
  cases c with
  | powerOn => cases hnext; exact startFirstFrame_capacity (capacityLaw_initial rfl)
  | pinReset => cases hnext; exact capacityLaw_initial rfl
  | resetRelease =>
    simp only [exec, execResetRelease] at hnext
    split_ifs at hnext <;> cases hnext
    · exact startFirstFrame_capacity (s := s.withResetLow false) h
    · exact h
  | inputLineStart bits clock => exact whileRunning_capacity h (takeLineStart_capacity bits clock h) hnext
  | inputPixelWord bits => exact whileRunning_capacity h (takePixelWord_capacity bits h) hnext
  | acquireTimerExpiry =>
    simp only [exec, execAcquireTimerExpiry] at hnext
    split at hnext
    · exact whileRunning_capacity h (h.of_ce (by simp)) hnext
    · cases hnext; exact h
  | flywheelExpiry =>
    simp only [exec, execFlywheelExpiry] at hnext
    split at hnext
    · exact whileRunning_capacity h (expireFlywheel_capacity _ h) hnext
    · cases hnext; exact h
  | internalLineStart => exact whileRunning_capacity h (paceInternal_capacity h) hnext
  | holdoverLimit =>
    simp only [exec, execHoldoverLimit] at hnext
    split_ifs at hnext
    · exact whileRunning_capacity h (nextInternalFrame_capacity h) hnext
    · cases hnext; exact h
  | editExpiry =>
    simp only [exec, execEditExpiry] at hnext
    split_ifs at hnext
    · exact whileRunning_capacity h (h.of_ce (by simp [expireEdit])) hnext
    · cases hnext; exact h
  | sfBurstComplete =>
    simp only [exec, execSfBurstComplete] at hnext
    split at hnext
    · split_ifs at hnext; cases hnext
      exact h.of_ce (by simp)
    · cases hnext; exact h
  | ceBurstComplete =>
    obtain rfl | ⟨r, d, -, -, rfl⟩ := exec_ceBurstComplete_cases hnext
    · exact h
    · exact completeEngineBurst_capacity _ h
  | storeChecksComplete =>
    simp only [exec, execStoreChecksComplete] at hnext
    split at hnext
    · split_ifs at hnext <;> cases hnext
      · exact h
      · exact completeChecks_capacity _ h
    · cases hnext; exact h
  | reportCountdown region =>
    simp only [exec, execReportCountdown] at hnext
    split at hnext
    · split_ifs at hnext
      · exact whileRunning_capacity h (h.of_ce (by simp)) hnext
      · cases hnext; exact h
    · cases hnext; exact h
  | commandBegin => exact whileRunning_capacity h (settleEngine_capacity h) hnext
  | broadcastCommit p =>
    simp only [exec, execBroadcastCommit] at hnext
    split_ifs at hnext <;> cases hnext
    · exact intakeBroadcast_capacity _ p h
    · exact h
  | nodeReset broadcast seq p =>
    simp only [exec, execNodeReset] at hnext
    split_ifs at hnext
    · cases hnext; exact intakeBroadcast_capacity _ p h
    · cases hnext; exact h
    · exact handOver_capacity h hnext
  | storeClearingDone => cases hnext; exact h
  | unknownCode | readInfo | readStatus | clearCounters | setNotifyMask | setTiming | editOpen
  | editCloseDiscard | editCloseKeep | editCloseCommit | sequencedCommit | setRegion | setPalette
  | setCue | readRegion | readPalette | readCue | ovlWrite | ovlFill | ovlCopy | ovlRead | setFence
  | readFence | readMeasure | setReport | cancel => exact handOver_capacity h hnext

/-- Settles O6: a step runs one row, and every row keeps the places and slots. -/
theorem stepKeepsCapacities : Obligations.StepKeepsCapacities := by
  unfold Obligations.StepKeepsCapacities
  intro s t h hnext
  unfold step at hnext
  split at hnext
  · cases hnext; exact h
  · rename_i c rest _
    exact exec_capacity (s := { s with pending := rest }) h hnext

end Sys2Proof.Machine
end

section
/-! Offers to the notification queue (R183), and the fields of READ_STATUS's data, group by group (R193,
R194, R198). -/

namespace Sys2Proof.Machine

/-! ### Offers -/

section Offers
variable {s : State} {frame : BitVec 16} {n : Notice}

theorem offerWith_masked (hmask : s.nq.mask.getLsbD n.position = false) : offerWith frame n s = s :=
  if_neg (by simp [hmask])

theorem offerWith_room (hmask : s.nq.mask.getLsbD n.position = true) (h : s.nq.entries.length < 16) :
    offerWith frame n s =
      s.withNq { s.nq with entries := s.nq.entries ++ [⟨n, frame, s.mlu.assembled⟩] } := by
  rw [offerWith, if_pos hmask, if_pos (by exact h)]

theorem offerWith_full (hmask : s.nq.mask.getLsbD n.position = true) (h : 16 ≤ s.nq.entries.length) :
    offerWith frame n s =
      s.withNq { s.nq with lost := stopAt 255 s.nq.lost, lostTotal := countUp s.nq.lostTotal } := by
  rw [offerWith, if_pos hmask, if_neg (by exact Nat.not_lt.2 h)]

theorem stopAt_eq {limit n : Nat} (h : n ≤ limit) : stopAt limit n = min limit (n + 1) := by
  unfold stopAt
  split_ifs <;> omega

/-- A queue within its 16 places stays within them. -/
theorem offerWith_length_le (h : s.nq.entries.length ≤ 16) :
    (offerWith frame n s).nq.entries.length ≤ 16 := by
  cases hmask : s.nq.mask.getLsbD n.position with
  | false => rwa [offerWith_masked hmask]
  | true =>
    rcases Nat.lt_or_ge s.nq.entries.length 16 with hroom | hfull
    · rw [offerWith_room hmask hroom]
      simpa using hroom
    · rwa [offerWith_full hmask hfull]

end Offers

/-- Settles O60: by the mask, then by the places left. -/
theorem offerRule : Obligations.OfferRule := by
  unfold Obligations.OfferRule
  refine fun s frame n => ⟨offerWith_masked, offerWith_room, fun hmask hfull hlost htotal => ?_,
    offerWith_length_le⟩
  rw [offerWith_full hmask hfull, stopAt_eq hlost, countUp_eq htotal]
  rfl

/-! ### The data of READ_STATUS -/

theorem LockState.code_lt (l : LockState) : l.code < 4 := by cases l <;> decide

theorem Slot.code_lt (x : Slot) : x.code < 3 := by cases x <;> decide

/-- Each count of a run of 16-bit counts is read back from its place. -/
theorem fieldAt_counts {counts : List Nat} (h : ∀ v ∈ counts, v < 65536) {i : Nat}
    (hi : i < counts.length) : fieldAt (counts.flatMap (toOctets 2)) (2 * i) 2 = counts[i] := by
  induction counts generalizing i with
  | nil => cases hi
  | cons v counts ih =>
    obtain ⟨hv, hcounts⟩ := List.forall_mem_cons.1 h
    rw [List.flatMap_cons]
    cases i with
    | zero => exact fieldAt_front hv _
    | succ i =>
      rw [Nat.mul_succ, fieldAt_past_two, ih hcounts (by simpa using hi), List.getElem_cons_succ]

theorem rasterOctets_length (s : State) : (rasterOctets s).length = 12 := by simp [rasterOctets]

theorem queueOctets_length (s : State) : (queueOctets s).length = 8 := by simp [queueOctets]

theorem statusOctets_length (s : State) : (statusOctets s).length = 71 := by
  simp [statusOctets, rasterOctets, editOctets, queueOctets, counterOctets]

/-- The raster group comes first, the rest behind its 12 octets. -/
theorem statusOctets_raster_first (s : State) :
    statusOctets s = rasterOctets s ++ (editOctets s ++ (queueOctets s ++ counterOctets s)) := by
  simp only [statusOctets, List.append_assoc]

theorem fieldAt_statusOctets_edit (s : State) (o n : Nat) : fieldAt (statusOctets s) (o + 12) n =
    fieldAt (editOctets s ++ (queueOctets s ++ counterOctets s)) o n := by
  rw [statusOctets_raster_first, ← rasterOctets_length s, fieldAt_past_list]

theorem fieldAt_statusOctets_queue (s : State) (o n : Nat) :
    fieldAt (statusOctets s) (o + 15) n = fieldAt (queueOctets s ++ counterOctets s) o n :=
  (fieldAt_statusOctets_edit s (o + 3) n).trans (fieldAt_past_list (editOctets s) _ o n)

theorem fieldAt_statusOctets_counter (s : State) (o n : Nat) :
    fieldAt (statusOctets s) (o + 23) n = fieldAt (counterOctets s) o n :=
  (fieldAt_statusOctets_queue s (o + 8) n).trans
    (by rw [← queueOctets_length s, fieldAt_past_list])

/-- The fields of the raster group. -/
theorem statusOctets_raster (s : State) :
    fieldAt (statusOctets s) 0 1 = s.rtu.lock.code ∧
    (s.out.geometry.total < 65536 → fieldAt (statusOctets s) 1 2 = s.out.geometry.total) ∧
    (s.out.geometry.active < 65536 → fieldAt (statusOctets s) 3 2 = s.out.geometry.active) ∧
    (s.out.geometry.firstActive < 65536 →
      fieldAt (statusOctets s) 5 2 = s.out.geometry.firstActive) ∧
    (s.out.geometry.width < 65536 → fieldAt (statusOctets s) 7 2 = s.out.geometry.width) ∧
    (s.out.geometry.mgmt < 256 → fieldAt (statusOctets s) 9 1 = s.out.geometry.mgmt) ∧
    fieldAt (statusOctets s) 10 2 = s.out.counter.toNat := by
  have hlock := s.rtu.lock.code_lt
  rw [statusOctets_raster_first]
  simp only [rasterOctets, List.append_assoc, List.cons_append, List.nil_append, fieldAt_cons,
    fieldAt_past_two]
  refine ⟨fieldAt_octet (by omega) _, fun h => fieldAt_front h _, fun h => fieldAt_front h _,
    fun h => fieldAt_front h _, fun h => fieldAt_front h _, fun h => ?mgmt,
    fieldAt_front s.out.counter.isLt _⟩
  rw [countOctet, if_pos h, fieldAt_octet h]

/-- The fields of the edit group. -/
theorem statusOctets_edit {s : State} (htimer : s.ct.timer < 256) :
    fieldAt (statusOctets s) 12 1 = flagCode s.ct.editOpen ∧
    fieldAt (statusOctets s) 13 1 = s.ct.timer ∧
    fieldAt (statusOctets s) 14 1 = flagCode s.ct.request.isSome := by
  have hopen := flagCode_le s.ct.editOpen
  have hrequest := flagCode_le s.ct.request.isSome
  simp only [fieldAt_statusOctets_edit, editOctets, List.cons_append, fieldAt_cons]
  exact ⟨fieldAt_octet (by omega) _, fieldAt_octet htimer _, fieldAt_octet (by omega) _⟩

/-- The fields of the queue group. -/
theorem statusOctets_queue {s : State} (hqueue : s.ce.queue.length < 256)
    (hslots : s.ce.sequencedResponses + s.ce.reservations < 256)
    (hentries : s.nq.entries.length < 256) (hlost : s.nq.lost < 256) :
    fieldAt (statusOctets s) 15 1 = s.ce.queue.length ∧
    fieldAt (statusOctets s) 16 1 = s.ce.reservations ∧
    fieldAt (statusOctets s) 17 1 = s.ce.sequencedResponses ∧
    fieldAt (statusOctets s) 18 1 = s.ce.slot.code ∧
    fieldAt (statusOctets s) 19 1 = s.nq.entries.length ∧
    fieldAt (statusOctets s) 20 1 = s.nq.lost ∧
    fieldAt (statusOctets s) 21 2 = s.nq.mask.toNat := by
  have hslot := s.ce.slot.code_lt
  have hmask := s.nq.mask.isLt
  simp only [fieldAt_statusOctets_queue, queueOctets, List.cons_append, List.nil_append,
    fieldAt_cons]
  exact ⟨fieldAt_octet hqueue _, fieldAt_octet (by omega) _, fieldAt_octet (by omega) _,
    fieldAt_octet (by omega) _, fieldAt_octet hentries _, fieldAt_octet hlost _,
    fieldAt_front (by omega) _⟩

/-- The 24 counters in the order of READ_STATUS (R190, R198). -/
def State.counters (s : State) : List Nat :=
  [s.mlu.crcErrors, s.mlu.framingErrors, s.mlu.notForwarded, s.mlu.misaddressed, s.ce.discarded,
    s.ce.duplicates, s.rtu.lockLosses, s.nq.lostTotal] ++ s.sf.underruns

/-- The counter group is the run of the 24 counters. -/
theorem counterOctets_eq_counters {s : State} (h : s.sf.underruns.length = 16) :
    counterOctets s = s.counters.flatMap (toOctets 2) := by
  have hunderruns : (List.range 16).map (fun i => s.sf.underruns.getD i 0) = s.sf.underruns :=
    List.ext_getElem (by simp [h]) fun i _ hi => by simp [hi]
  rw [counterOctets, ← List.flatMap_map, hunderruns]
  simp [State.counters]

theorem State.Bounded.counters_lt {s : State} (h : s.Bounded) : ∀ v ∈ s.counters, v < 65536 := by
  obtain ⟨⟨-, -, htotal⟩, ⟨hcrc, hframing, hforward, hmisaddressed, -⟩, ⟨hdiscarded, hduplicates, -⟩,
    ⟨-, -, hunderruns⟩, hlosses⟩ := h
  simp only [State.counters, List.cons_append, List.nil_append, List.forall_mem_cons]
  refine ⟨?_, ?_, ?_, ?_, ?_, ?_, ?_, ?_, fun v hv => Nat.lt_succ_of_le (hunderruns v hv)⟩
  all_goals omega

/-- Each of the 24 counters is read back from its place. -/
theorem statusOctets_counters {s : State} (h : s.Bounded) {k : Nat} (hk : k < 24) :
    fieldAt (statusOctets s) (2 * k + 23) 2 = s.counters.getD k 0 := by
  obtain ⟨-, -, -, ⟨hunderruns, -⟩, -⟩ := id h
  have hplace : k < s.counters.length := by simpa [State.counters, hunderruns] using hk
  rw [fieldAt_statusOctets_counter, counterOctets_eq_counters hunderruns,
    fieldAt_counts h.counters_lt hplace, List.getD_eq_getElem _ _ hplace]

/-- The underrun counters stand behind the eight single ones. -/
theorem statusOctets_underruns {s : State} (h : s.Bounded) {i : Nat} (hi : i < 16) :
    fieldAt (statusOctets s) (39 + 2 * i) 2 = s.sf.underruns.getD i 0 := by
  have hplace : 39 + 2 * i = 2 * (i + 8) + 23 := by omega
  rw [hplace, statusOctets_counters h (by omega)]
  rfl

/-- READ_STATUS is done in the state that accepted it, its own reservation made (R193, R194). -/
theorem exec_readStatus {s : State} {seq : Byte} (h : Ready seq s) : exec (.readStatus seq []) s =
    .next (s.answered seq 0x02 .ok (statusOctets (s.accepted seq))) :=
  handOver_done (c := .readStatus) h rfl rfl rfl

/-- Settles O41: the data shows the state that accepted the command, and is read back group by group. -/
theorem readStatusAnswersState : Obligations.ReadStatusAnswersState := by
  unfold Obligations.ReadStatusAnswersState
  intro s seq hready hlaw htimer
  have hbounded : (s.accepted seq).Bounded := (counterLaw_iff (s.accepted seq)).1 hlaw
  obtain ⟨⟨hentries, hlost, -⟩, -⟩ := id hbounded
  obtain ⟨-, -, -, -, -, -, hempty, hslots, -⟩ := id hready
  have hqueue : (s.accepted seq).ce.queue.length = 0 := congrArg List.length hempty
  have haccepted : (s.accepted seq).ce.sequencedResponses + (s.accepted seq).ce.reservations < 256 := by
    change s.ce.sequencedResponses + (s.ce.reservations + 1) < 256
    omega
  obtain ⟨hlock, htotal, hactive, hfirst, hwidth, hmgmt, hframe⟩ := statusOctets_raster (s.accepted seq)
  obtain ⟨hopen, hticks, hrequest⟩ :=
    statusOctets_edit (s := s.accepted seq) (Nat.lt_of_le_of_lt htimer (by decide))
  obtain ⟨hwaiting, hreservations, hresponses, hslot, hnotifications, hdropped, hmask⟩ :=
    statusOctets_queue (by omega) haccepted (by omega) (by omega)
  have hcounter (k : Nat) (hk : k < 24) := statusOctets_counters hbounded hk
  exact ⟨statusOctets (s.accepted seq), exec_readStatus hready, statusOctets_length _, hlock, htotal,
    hactive, hfirst, hwidth, hmgmt, hframe, hopen, hticks, hrequest, hwaiting.trans hqueue,
    hreservations, hresponses, hslot, hnotifications, hdropped, hmask, hcounter 0 (by decide),
    hcounter 1 (by decide), hcounter 2 (by decide), hcounter 3 (by decide), hcounter 4 (by decide),
    hcounter 5 (by decide), hcounter 6 (by decide), hcounter 7 (by decide),
    fun i hi => statusOctets_underruns hbounded hi⟩

end Sys2Proof.Machine
end

section
/-! The two rules of `step`, by the shape of the queue (log 8). -/

namespace Sys2Proof.Machine

theorem step_of_pending_cons {s : State} {c : Instr} {rest : List Instr} (h : s.pending = c :: rest) :
    step s = exec c { s with pending := rest } := by
  simp only [step, h]

theorem step_of_pending_nil {s : State} (h : s.pending = []) : step s = .next s := by
  simp only [step, h]

/-- Settles O1: taking the front off a queue that was given one more command leaves the state itself. -/
theorem stepRunsFrontOrIdles : Obligations.StepRunsFrontOrIdles := by
  unfold Obligations.StepRunsFrontOrIdles
  refine ⟨fun c s => ?front, fun s hempty => step_of_pending_nil hempty⟩
  case front => exact step_of_pending_cons (s := { s with pending := c :: s.pending }) rfl

end Sys2Proof.Machine
end
